-- ==== Sys2Proof/Word.lean ====
section
/-! DEFINITION. The word types of the block: the widths that 00_scope.md R8 settles. -/

namespace Sys2Proof

/-- A protocol frame: a 32-bit unsigned value, bit 31 most significant (00_scope.md R8, R9). -/
abbrev Frame := BitVec 32

/-- A message identifier, bits 23 to 16 of a frame (00_scope.md R8, 30_encoding.md R73). -/
abbrev MsgId := BitVec 8

/-- A payload, bits 15 to 0 of a frame (00_scope.md R8, 30_encoding.md R74). -/
abbrev Payload := BitVec 16

/-- An IEEE-754 binary32 value, as its 32 bits (10_state.md R34). -/
abbrev Binary32 := BitVec 32

end Sys2Proof
end

