-- ==== Sys2Proof/Config.lean ====
section
/-! DEFINITION. The parameters of the block (00_scope.md R7), as plain data, and the free values. -/

namespace Sys2Proof

/-- The named message identifiers of 30_encoding.md R76, in that table's order. -/
inductive MsgName where
  | status | tSet | sConfigSMemberIDcode | rbpFlags | tsetCH2
  | relModLevel | chPressure | dhwFlowRate
  | tboiler | tdhw | toutside | tret | tstorage | tcollector | tflowCH2 | tdhw2 | texhaust
  | tdhwSetUBTdhwSetLB | maxTSetUBMaxTSetLB | maxTSet
  | burnerStarts | chPumpStarts | dhwPumpValveStarts | dhwBurnerStarts
  | burnerOperationHours | chPumpOperationHours | dhwPumpValveOperationHours | dhwBurnerOperationHours
  deriving DecidableEq, Repr

/-- The number a binary32 value stands for (IEEE 754, which 10_state.md R34 names). -/
inductive Number where
  | nan
  | infinity (negative : Bool)
  | finite (q : Rat)
  deriving DecidableEq, Repr

namespace Config

/-- `P_ID_MAP`: the number of every named identifier, one field a name (00_scope.md R7, 30_encoding.md R76). -/
structure IdMap where
  status : MsgId
  tSet : MsgId
  sConfigSMemberIDcode : MsgId
  rbpFlags : MsgId
  tsetCH2 : MsgId
  relModLevel : MsgId
  chPressure : MsgId
  dhwFlowRate : MsgId
  tboiler : MsgId
  tdhw : MsgId
  toutside : MsgId
  tret : MsgId
  tstorage : MsgId
  tcollector : MsgId
  tflowCH2 : MsgId
  tdhw2 : MsgId
  texhaust : MsgId
  tdhwSetUBTdhwSetLB : MsgId
  maxTSetUBMaxTSetLB : MsgId
  maxTSet : MsgId
  burnerStarts : MsgId
  chPumpStarts : MsgId
  dhwPumpValveStarts : MsgId
  dhwBurnerStarts : MsgId
  burnerOperationHours : MsgId
  chPumpOperationHours : MsgId
  dhwPumpValveOperationHours : MsgId
  dhwBurnerOperationHours : MsgId
  deriving DecidableEq, Repr

/-- `P_PARITY`: what the Request Builder writes into bit 31 (30_encoding.md R72). -/
inductive ParityMode where
  | even | zero
  deriving DecidableEq, Repr

/-- The two request message types (30_encoding.md R71); also the values of `P_STATUS_TYPE`. -/
inductive MsgType where
  | readData | writeData
  deriving DecidableEq, Repr

/-- `P_ENC_MODE`: the range handling of `encode_fixed_point` (40_codec.md R107, R108). -/
inductive EncMode where
  | wrap | clamp0to100
  deriving DecidableEq, Repr

/-- `P_CONFIG_FLAG_BYTE`: the payload byte of the six slave-configuration flags (30_encoding.md R81). -/
inductive FlagByte where
  | lb | hb
  deriving DecidableEq, Repr

/-- `P_TICK_ORDER`: the order of the two phases of a tick (43_scheduler.md R242). -/
inductive TickOrder where
  | sendThenProcess | processThenSend
  deriving DecidableEq, Repr

/-- The parameters of 00_scope.md R7 that a rule of the model reads. `P_ENC_OOR` is a free value below;
`P_TICK_PERIOD` is read by no rule and is left out (log entry 25). -/
structure Params where
  listMax : Nat
  idMap : IdMap
  parity : ParityMode
  statusType : MsgType
  encMode : EncMode
  maxTSetReq : Bool
  configFlagByte : FlagByte
  tickOrder : TickOrder
  deriving DecidableEq, Repr

/-- `P_ENC_OOR`, OPEN: the 16-bit result of `encode_fixed_point` on a value out of its domain, a draw
(40_codec.md R109, log entry 7). It has no body, so whatever is proved holds for every result. It is applied to the
number the value stands for, since no NaN payload affects any result (40_codec.md R114). -/
opaque encOutOfRange : Number → Payload

/-- `P_LIST_MAX` less one, OPEN (00_scope.md R7, log entry 6): a free value, so no bound is assumed. -/
opaque listMaxLessOne : Nat

end Config
end Sys2Proof
end

