-- ==== Sys2Proof/Syntax.lean ====
section
/-! DEFINITION. The instructions, one constructor per row of spec/opcode_table.json, and the form in which one is presented. -/

namespace Sys2Proof

/-- The 68 rows of the opcode table. A request builder reads its inputs from the block's ports and so has no
operand; a response rule has the VALID frame as its operand; a codec function has its argument. -/
inductive Instr where
  -- Request Builder (41_request_builder.md R133 to R161)
  | reqStatus | reqTSet | reqTsetCH2
  | reqSConfigSMemberIDcode | reqRBPflags
  | reqRelModLevel | reqCHPressure | reqDHWFlowRate
  | reqTboiler | reqTdhw | reqToutside | reqTret | reqTstorage | reqTcollector | reqTflowCH2
  | reqTdhw2 | reqTexhaust
  | reqTdhwSetUBTdhwSetLB | reqMaxTSetUBMaxTSetLB | reqMaxTSet
  | reqBurnerStarts | reqCHPumpStarts | reqDHWPumpValveStarts | reqDHWBurnerStarts
  | reqBurnerOperationHours | reqCHPumpOperationHours
  | reqDHWPumpValveOperationHours | reqDHWBurnerOperationHours
  | reqUnknown (id : MsgId)
  -- Response Dispatcher (42_response_dispatcher.md R184 to R212)
  | rspStatus (frame : Frame)
  | rspTSet (frame : Frame)
  | rspTsetCH2 (frame : Frame)
  | rspSConfigSMemberIDcode (frame : Frame)
  | rspRBPflags (frame : Frame)
  | rspRelModLevel (frame : Frame)
  | rspCHPressure (frame : Frame)
  | rspDHWFlowRate (frame : Frame)
  | rspTboiler (frame : Frame)
  | rspTdhw (frame : Frame)
  | rspToutside (frame : Frame)
  | rspTret (frame : Frame)
  | rspTstorage (frame : Frame)
  | rspTcollector (frame : Frame)
  | rspTflowCH2 (frame : Frame)
  | rspTdhw2 (frame : Frame)
  | rspTexhaust (frame : Frame)
  | rspTdhwSetUBTdhwSetLB (frame : Frame)
  | rspMaxTSetUBMaxTSetLB (frame : Frame)
  | rspMaxTSet (frame : Frame)
  | rspBurnerStarts (frame : Frame)
  | rspCHPumpStarts (frame : Frame)
  | rspDHWPumpValveStarts (frame : Frame)
  | rspDHWBurnerStarts (frame : Frame)
  | rspBurnerOperationHours (frame : Frame)
  | rspCHPumpOperationHours (frame : Frame)
  | rspDHWPumpValveOperationHours (frame : Frame)
  | rspDHWBurnerOperationHours (frame : Frame)
  | rspUnexpected (frame : Frame)
  -- Frame Codec (40_codec.md R101 to R107)
  | codecDecodeSigned16 (frame : Frame)
  | codecDecodeFixedPoint (frame : Frame)
  | codecDecodeHighByteSigned (frame : Frame)
  | codecDecodeLowByteSigned (frame : Frame)
  | codecDecodeUint16 (frame : Frame)
  | codecDecodeFlag (frame : Frame) (i : Nat)
  | codecEncodeFixedPoint (v : Binary32)
  -- Lifecycle operations (43_scheduler.md R241 to R243)
  | opStart | opTick | opStop
  deriving DecidableEq, Repr

/-- The codec functions, which have no opcode of their own: the port names the function. -/
inductive CodecFn where
  | decodeSigned16 | decodeFixedPoint | decodeHighByteSigned | decodeLowByteSigned
  | decodeUint16 | decodeFlag | encodeFixedPoint
  deriving DecidableEq, Repr

/-- The lifecycle operations, which have no frame encoding: the port names the operation. -/
inductive LifecycleOp where
  | start | tick | stop
  deriving DecidableEq, Repr

/-- The part of the block a word is presented to. Requests and responses share one frame format
(30_encoding.md R70), so the word alone does not say which row it is (log entry 1). -/
inductive Port where
  | request
  | response
  | codec (f : CodecFn)
  | lifecycle (o : LifecycleOp)
  deriving DecidableEq, Repr

/-- An instruction as it is presented: the port, the 32-bit word there, and the bit index, which only
`decode_flag` reads (40_codec.md R106). -/
structure Command where
  port : Port
  word : BitVec 32
  index : Nat
  deriving DecidableEq, Repr

/-- Why a command is no instruction. -/
inductive Reject where
  /-- A word at the request port that has the identifier of a row and not the row's other fixed bits
  (30_encoding.md R85). -/
  | notARequestFrame
  /-- A bit index of 32 or more is no operand of `decode_flag` (40_codec.md R106). -/
  | flagIndexOutOfRange
  deriving DecidableEq, Repr

end Sys2Proof
end

