-- ==== Sys2Proof/Machine/Identifiers.lean ====
section
/-! DEFINITION. The identifier map and the partition of the identifier space (30_encoding.md R76, R77), and the
parameters' default values (00_scope.md R7). -/

namespace Sys2Proof

/-- The default of `P_ID_MAP`: the identifier numbers of the table of 30_encoding.md R76. PRESUMED: the spec
takes them from general knowledge of the protocol (its G4; log entry 8). -/
def Config.defaultIdMap : Config.IdMap where
  status := 0
  tSet := 1
  sConfigSMemberIDcode := 3
  rbpFlags := 6
  tsetCH2 := 8
  relModLevel := 17
  chPressure := 18
  dhwFlowRate := 19
  tboiler := 25
  tdhw := 26
  toutside := 27
  tret := 28
  tstorage := 29
  tcollector := 30
  tflowCH2 := 31
  tdhw2 := 32
  texhaust := 33
  tdhwSetUBTdhwSetLB := 48
  maxTSetUBMaxTSetLB := 49
  maxTSet := 57
  burnerStarts := 116
  chPumpStarts := 117
  dhwPumpValveStarts := 118
  dhwBurnerStarts := 119
  burnerOperationHours := 120
  chPumpOperationHours := 121
  dhwPumpValveOperationHours := 122
  dhwBurnerOperationHours := 123

/-- `ID(name)`: the number the map gives a name (10_state.md R24, 30_encoding.md R76). -/
def Config.IdMap.idOf (m : Config.IdMap) (n : MsgName) : MsgId :=
  match n with
  | .status => m.status
  | .tSet => m.tSet
  | .tsetCH2 => m.tsetCH2
  | .sConfigSMemberIDcode => m.sConfigSMemberIDcode
  | .rbpFlags => m.rbpFlags
  | .relModLevel => m.relModLevel
  | .chPressure => m.chPressure
  | .dhwFlowRate => m.dhwFlowRate
  | .tboiler => m.tboiler
  | .tdhw => m.tdhw
  | .toutside => m.toutside
  | .tret => m.tret
  | .tstorage => m.tstorage
  | .tcollector => m.tcollector
  | .tflowCH2 => m.tflowCH2
  | .tdhw2 => m.tdhw2
  | .texhaust => m.texhaust
  | .tdhwSetUBTdhwSetLB => m.tdhwSetUBTdhwSetLB
  | .maxTSetUBMaxTSetLB => m.maxTSetUBMaxTSetLB
  | .maxTSet => m.maxTSet
  | .burnerStarts => m.burnerStarts
  | .chPumpStarts => m.chPumpStarts
  | .dhwPumpValveStarts => m.dhwPumpValveStarts
  | .dhwBurnerStarts => m.dhwBurnerStarts
  | .burnerOperationHours => m.burnerOperationHours
  | .chPumpOperationHours => m.chPumpOperationHours
  | .dhwPumpValveOperationHours => m.dhwPumpValveOperationHours
  | .dhwBurnerOperationHours => m.dhwBurnerOperationHours

/-- Every named identifier, in the order in which 41_request_builder.md R132 and 42_response_dispatcher.md R183
test them: Status, TSet, TsetCH2, the two flag registers, then the table's order (log entry 9). -/
def MsgName.all : List MsgName :=
  [.status, .tSet, .tsetCH2, .sConfigSMemberIDcode, .rbpFlags] ++
  [.relModLevel, .chPressure, .dhwFlowRate, .tboiler, .tdhw, .toutside, .tret, .tstorage, .tcollector,
    .tflowCH2, .tdhw2, .texhaust, .tdhwSetUBTdhwSetLB, .maxTSetUBMaxTSetLB, .maxTSet] ++
  [.burnerStarts, .chPumpStarts, .dhwPumpValveStarts, .dhwBurnerStarts, .burnerOperationHours,
    .chPumpOperationHours, .dhwPumpValveOperationHours, .dhwBurnerOperationHours]

/-- The names of `BUILD_SET`: all of them, MaxTSet only when `P_MAXTSET_REQ` holds (30_encoding.md R77). -/
def buildNames (p : Config.Params) : List MsgName :=
  MsgName.all.filter fun n => n != .maxTSet || p.maxTSetReq

/-- The row of the Request Builder an identifier selects; none outside `BUILD_SET` (41_request_builder.md R132). -/
def requestName (p : Config.Params) (id : MsgId) : Option MsgName :=
  (buildNames p).find? fun n => p.idMap.idOf n == id

/-- The row of the Response Dispatcher an identifier selects; none outside `DISPATCH_SET`, which always holds
MaxTSet (42_response_dispatcher.md R183, 30_encoding.md R77). -/
def responseName (p : Config.Params) (id : MsgId) : Option MsgName :=
  MsgName.all.find? fun n => p.idMap.idOf n == id

/-- `id ∈ BUILD_SET` (30_encoding.md R77). -/
def inBuildSet (p : Config.Params) (id : MsgId) : Bool := (requestName p id).isSome

/-- `id ∈ DISPATCH_SET` (30_encoding.md R77). -/
def inDispatchSet (p : Config.Params) (id : MsgId) : Bool := (responseName p id).isSome

/-- `ID = frame[23:16]` (30_encoding.md R73). -/
def frameId (frame : Frame) : MsgId := frame.extractLsb' 16 8

/-- `DATA = frame[15:0]` (30_encoding.md R74). -/
def framePayload (frame : Frame) : Payload := frame.extractLsb' 0 16

/-- The parameters at their defaults (00_scope.md R7, log entry 20); `P_LIST_MAX` is open and at least 1. -/
def Config.defaults : Config.Params where
  listMax := Config.listMaxLessOne + 1
  idMap := Config.defaultIdMap
  parity := .even
  statusType := .readData
  encMode := .wrap
  maxTSetReq := true
  configFlagByte := .lb
  tickOrder := .sendThenProcess

/-- What a parameter set must be: `P_LIST_MAX` is at least 1 (00_scope.md R7) and no two names share a number
(log entry 9: the spec says the map gives the number of every name and never that two are equal). -/
abbrev Config.Params.wf (p : Config.Params) : Prop :=
  1 ≤ p.listMax ∧ (MsgName.all.map p.idMap.idOf).Nodup

end Sys2Proof
end

