-- ==== Sys2Proof/WellFormed.lean ====
section
/-! DEFINITION. Which instructions are well formed, given the parameters. -/

namespace Sys2Proof

/-- A response rule's frame carries the rule's identifier (42_response_dispatcher.md R183); RSP.<unexpected>'s
carries none of `DISPATCH_SET` (R184); REQ.<unknown>'s identifier is outside `BUILD_SET` (41_request_builder.md
R161); REQ.MaxTSet exists only under `P_MAXTSET_REQ` (R152); a bit index is at most 31 (40_codec.md R106). -/
def Instr.wellFormed (p : Config.Params) (i : Instr) : Bool :=
  match i with
  | .reqStatus => true
  | .reqTSet => true
  | .reqTsetCH2 => true
  | .reqSConfigSMemberIDcode => true
  | .reqRBPflags => true
  | .reqRelModLevel => true
  | .reqCHPressure => true
  | .reqDHWFlowRate => true
  | .reqTboiler => true
  | .reqTdhw => true
  | .reqToutside => true
  | .reqTret => true
  | .reqTstorage => true
  | .reqTcollector => true
  | .reqTflowCH2 => true
  | .reqTdhw2 => true
  | .reqTexhaust => true
  | .reqTdhwSetUBTdhwSetLB => true
  | .reqMaxTSetUBMaxTSetLB => true
  | .reqMaxTSet => p.maxTSetReq
  | .reqBurnerStarts => true
  | .reqCHPumpStarts => true
  | .reqDHWPumpValveStarts => true
  | .reqDHWBurnerStarts => true
  | .reqBurnerOperationHours => true
  | .reqCHPumpOperationHours => true
  | .reqDHWPumpValveOperationHours => true
  | .reqDHWBurnerOperationHours => true
  | .reqUnknown id => !inBuildSet p id
  | .rspStatus frame => frameId frame == p.idMap.status
  | .rspTSet frame => frameId frame == p.idMap.tSet
  | .rspTsetCH2 frame => frameId frame == p.idMap.tsetCH2
  | .rspSConfigSMemberIDcode frame => frameId frame == p.idMap.sConfigSMemberIDcode
  | .rspRBPflags frame => frameId frame == p.idMap.rbpFlags
  | .rspRelModLevel frame => frameId frame == p.idMap.relModLevel
  | .rspCHPressure frame => frameId frame == p.idMap.chPressure
  | .rspDHWFlowRate frame => frameId frame == p.idMap.dhwFlowRate
  | .rspTboiler frame => frameId frame == p.idMap.tboiler
  | .rspTdhw frame => frameId frame == p.idMap.tdhw
  | .rspToutside frame => frameId frame == p.idMap.toutside
  | .rspTret frame => frameId frame == p.idMap.tret
  | .rspTstorage frame => frameId frame == p.idMap.tstorage
  | .rspTcollector frame => frameId frame == p.idMap.tcollector
  | .rspTflowCH2 frame => frameId frame == p.idMap.tflowCH2
  | .rspTdhw2 frame => frameId frame == p.idMap.tdhw2
  | .rspTexhaust frame => frameId frame == p.idMap.texhaust
  | .rspTdhwSetUBTdhwSetLB frame => frameId frame == p.idMap.tdhwSetUBTdhwSetLB
  | .rspMaxTSetUBMaxTSetLB frame => frameId frame == p.idMap.maxTSetUBMaxTSetLB
  | .rspMaxTSet frame => frameId frame == p.idMap.maxTSet
  | .rspBurnerStarts frame => frameId frame == p.idMap.burnerStarts
  | .rspCHPumpStarts frame => frameId frame == p.idMap.chPumpStarts
  | .rspDHWPumpValveStarts frame => frameId frame == p.idMap.dhwPumpValveStarts
  | .rspDHWBurnerStarts frame => frameId frame == p.idMap.dhwBurnerStarts
  | .rspBurnerOperationHours frame => frameId frame == p.idMap.burnerOperationHours
  | .rspCHPumpOperationHours frame => frameId frame == p.idMap.chPumpOperationHours
  | .rspDHWPumpValveOperationHours frame => frameId frame == p.idMap.dhwPumpValveOperationHours
  | .rspDHWBurnerOperationHours frame => frameId frame == p.idMap.dhwBurnerOperationHours
  | .rspUnexpected frame => !inDispatchSet p (frameId frame)
  | .codecDecodeSigned16 _ => true
  | .codecDecodeFixedPoint _ => true
  | .codecDecodeHighByteSigned _ => true
  | .codecDecodeLowByteSigned _ => true
  | .codecDecodeUint16 _ => true
  | .codecDecodeFlag _ i => decide (i < 32)
  | .codecEncodeFixedPoint _ => true
  | .opStart => true
  | .opTick => true
  | .opStop => true

end Sys2Proof
end

