-- ==== Sys2Proof/Decode.lean ====
section
/-! DEFINITION. Decoding a presented command to an instruction, and encoding an instruction as a command. -/

namespace Sys2Proof

/-- The request builder's instruction for a name (41_request_builder.md R133 to R160). -/
def Instr.reqOf (n : MsgName) : Instr :=
  match n with
  | .status => .reqStatus
  | .tSet => .reqTSet
  | .tsetCH2 => .reqTsetCH2
  | .sConfigSMemberIDcode => .reqSConfigSMemberIDcode
  | .rbpFlags => .reqRBPflags
  | .relModLevel => .reqRelModLevel
  | .chPressure => .reqCHPressure
  | .dhwFlowRate => .reqDHWFlowRate
  | .tboiler => .reqTboiler
  | .tdhw => .reqTdhw
  | .toutside => .reqToutside
  | .tret => .reqTret
  | .tstorage => .reqTstorage
  | .tcollector => .reqTcollector
  | .tflowCH2 => .reqTflowCH2
  | .tdhw2 => .reqTdhw2
  | .texhaust => .reqTexhaust
  | .tdhwSetUBTdhwSetLB => .reqTdhwSetUBTdhwSetLB
  | .maxTSetUBMaxTSetLB => .reqMaxTSetUBMaxTSetLB
  | .maxTSet => .reqMaxTSet
  | .burnerStarts => .reqBurnerStarts
  | .chPumpStarts => .reqCHPumpStarts
  | .dhwPumpValveStarts => .reqDHWPumpValveStarts
  | .dhwBurnerStarts => .reqDHWBurnerStarts
  | .burnerOperationHours => .reqBurnerOperationHours
  | .chPumpOperationHours => .reqCHPumpOperationHours
  | .dhwPumpValveOperationHours => .reqDHWPumpValveOperationHours
  | .dhwBurnerOperationHours => .reqDHWBurnerOperationHours

/-- The response rule's instruction for a name (42_response_dispatcher.md R185 to R212). -/
def Instr.rspOf (n : MsgName) (frame : Frame) : Instr :=
  match n with
  | .status => .rspStatus frame
  | .tSet => .rspTSet frame
  | .tsetCH2 => .rspTsetCH2 frame
  | .sConfigSMemberIDcode => .rspSConfigSMemberIDcode frame
  | .rbpFlags => .rspRBPflags frame
  | .relModLevel => .rspRelModLevel frame
  | .chPressure => .rspCHPressure frame
  | .dhwFlowRate => .rspDHWFlowRate frame
  | .tboiler => .rspTboiler frame
  | .tdhw => .rspTdhw frame
  | .toutside => .rspToutside frame
  | .tret => .rspTret frame
  | .tstorage => .rspTstorage frame
  | .tcollector => .rspTcollector frame
  | .tflowCH2 => .rspTflowCH2 frame
  | .tdhw2 => .rspTdhw2 frame
  | .texhaust => .rspTexhaust frame
  | .tdhwSetUBTdhwSetLB => .rspTdhwSetUBTdhwSetLB frame
  | .maxTSetUBMaxTSetLB => .rspMaxTSetUBMaxTSetLB frame
  | .maxTSet => .rspMaxTSet frame
  | .burnerStarts => .rspBurnerStarts frame
  | .chPumpStarts => .rspCHPumpStarts frame
  | .dhwPumpValveStarts => .rspDHWPumpValveStarts frame
  | .dhwBurnerStarts => .rspDHWBurnerStarts frame
  | .burnerOperationHours => .rspBurnerOperationHours frame
  | .chPumpOperationHours => .rspCHPumpOperationHours frame
  | .dhwPumpValveOperationHours => .rspDHWPumpValveOperationHours frame
  | .dhwBurnerOperationHours => .rspDHWBurnerOperationHours frame

/-- The message-type bits of a request in frame bits 30 to 24: READ_DATA all zero, WRITE_DATA bit 28 only
(30_encoding.md R71, R75). -/
def typeBits (t : Config.MsgType) : Frame :=
  match t with
  | .readData => 0
  | .writeData => 0x10000000

/-- The message type of a name's request: WRITE_DATA for the setpoints, `P_STATUS_TYPE` for Status, READ_DATA for
the read-only set (30_encoding.md R76, 41_request_builder.md R133 to R136). -/
def requestType (p : Config.Params) (n : MsgName) : Config.MsgType :=
  match n with
  | .status => p.statusType
  | .tSet | .tsetCH2 => .writeData
  | _ => .readData

/-- The mask of a REQ row of the opcode table: all but parity, and but the flag bits of Status and the payload of
the setpoints. -/
def requestMask (n : MsgName) : Frame :=
  match n with
  | .status => 0x7FFFE0FF
  | .tSet | .tsetCH2 => 0x7FFF0000
  | _ => 0x7FFFFFFF

/-- The match value of a REQ row: the type bits and the identifier, the payload bits zero. -/
def requestMatch (p : Config.Params) (n : MsgName) : Frame :=
  typeBits (requestType p n) ||| ((p.idMap.idOf n).zeroExtend 32 <<< 16)

/-- Reads a word at the request port: the row is selected by bits 23 to 16 (41_request_builder.md R132) and the
word must have that row's fixed bits; the bits the builder fills in (parity, flags, setpoint payload) are no
operands (log entry 14). An identifier outside `BUILD_SET` is REQ.<unknown> (R161). -/
def decodeRequest (p : Config.Params) (w : Frame) : Except Reject Instr :=
  match requestName p (frameId w) with
  | some n => if w &&& requestMask n = requestMatch p n then .ok (Instr.reqOf n) else .error .notARequestFrame
  | none => .ok (.reqUnknown (frameId w))

/-- Reads a VALID frame at the response port: every 32-bit value is some row (30_encoding.md R86), selected by
bits 23 to 16 alone (42_response_dispatcher.md R183, R184). -/
def decodeResponse (p : Config.Params) (frame : Frame) : Instr :=
  match responseName p (frameId frame) with
  | some n => Instr.rspOf n frame
  | none => .rspUnexpected frame

/-- Decoding a presented command, total, rejecting by name. -/
def decode (p : Config.Params) (c : Command) : Except Reject Instr :=
  match c.port with
  | .request => decodeRequest p c.word
  | .response => .ok (decodeResponse p c.word)
  | .codec .decodeSigned16 => .ok (.codecDecodeSigned16 c.word)
  | .codec .decodeFixedPoint => .ok (.codecDecodeFixedPoint c.word)
  | .codec .decodeHighByteSigned => .ok (.codecDecodeHighByteSigned c.word)
  | .codec .decodeLowByteSigned => .ok (.codecDecodeLowByteSigned c.word)
  | .codec .decodeUint16 => .ok (.codecDecodeUint16 c.word)
  | .codec .decodeFlag =>
    if c.index < 32 then .ok (.codecDecodeFlag c.word c.index) else .error .flagIndexOutOfRange
  | .codec .encodeFixedPoint => .ok (.codecEncodeFixedPoint c.word)
  | .lifecycle .start => .ok .opStart
  | .lifecycle .tick => .ok .opTick
  | .lifecycle .stop => .ok .opStop

/-- A command at the request port. -/
def requestCommand (w : Frame) : Command := ⟨.request, w, 0⟩

/-- A command at the response port. -/
def responseCommand (frame : Frame) : Command := ⟨.response, frame, 0⟩

/-- A command at a codec port. -/
def codecCommand (f : CodecFn) (w : BitVec 32) : Command := ⟨.codec f, w, 0⟩

/-- A lifecycle command; it carries no word. -/
def lifecycleCommand (o : LifecycleOp) : Command := ⟨.lifecycle o, 0, 0⟩

/-- Encoding: a request row as its match value, the bits the builder fills in zero; REQ.<unknown> as its identifier
in bits 23 to 16; a response rule as its frame; a codec function or operation by its port. -/
def encode (p : Config.Params) (i : Instr) : Command :=
  match i with
  | .reqStatus => requestCommand (requestMatch p .status)
  | .reqTSet => requestCommand (requestMatch p .tSet)
  | .reqTsetCH2 => requestCommand (requestMatch p .tsetCH2)
  | .reqSConfigSMemberIDcode => requestCommand (requestMatch p .sConfigSMemberIDcode)
  | .reqRBPflags => requestCommand (requestMatch p .rbpFlags)
  | .reqRelModLevel => requestCommand (requestMatch p .relModLevel)
  | .reqCHPressure => requestCommand (requestMatch p .chPressure)
  | .reqDHWFlowRate => requestCommand (requestMatch p .dhwFlowRate)
  | .reqTboiler => requestCommand (requestMatch p .tboiler)
  | .reqTdhw => requestCommand (requestMatch p .tdhw)
  | .reqToutside => requestCommand (requestMatch p .toutside)
  | .reqTret => requestCommand (requestMatch p .tret)
  | .reqTstorage => requestCommand (requestMatch p .tstorage)
  | .reqTcollector => requestCommand (requestMatch p .tcollector)
  | .reqTflowCH2 => requestCommand (requestMatch p .tflowCH2)
  | .reqTdhw2 => requestCommand (requestMatch p .tdhw2)
  | .reqTexhaust => requestCommand (requestMatch p .texhaust)
  | .reqTdhwSetUBTdhwSetLB => requestCommand (requestMatch p .tdhwSetUBTdhwSetLB)
  | .reqMaxTSetUBMaxTSetLB => requestCommand (requestMatch p .maxTSetUBMaxTSetLB)
  | .reqMaxTSet => requestCommand (requestMatch p .maxTSet)
  | .reqBurnerStarts => requestCommand (requestMatch p .burnerStarts)
  | .reqCHPumpStarts => requestCommand (requestMatch p .chPumpStarts)
  | .reqDHWPumpValveStarts => requestCommand (requestMatch p .dhwPumpValveStarts)
  | .reqDHWBurnerStarts => requestCommand (requestMatch p .dhwBurnerStarts)
  | .reqBurnerOperationHours => requestCommand (requestMatch p .burnerOperationHours)
  | .reqCHPumpOperationHours => requestCommand (requestMatch p .chPumpOperationHours)
  | .reqDHWPumpValveOperationHours => requestCommand (requestMatch p .dhwPumpValveOperationHours)
  | .reqDHWBurnerOperationHours => requestCommand (requestMatch p .dhwBurnerOperationHours)
  | .reqUnknown id => requestCommand (id.zeroExtend 32 <<< 16)
  | .rspStatus frame => responseCommand frame
  | .rspTSet frame => responseCommand frame
  | .rspTsetCH2 frame => responseCommand frame
  | .rspSConfigSMemberIDcode frame => responseCommand frame
  | .rspRBPflags frame => responseCommand frame
  | .rspRelModLevel frame => responseCommand frame
  | .rspCHPressure frame => responseCommand frame
  | .rspDHWFlowRate frame => responseCommand frame
  | .rspTboiler frame => responseCommand frame
  | .rspTdhw frame => responseCommand frame
  | .rspToutside frame => responseCommand frame
  | .rspTret frame => responseCommand frame
  | .rspTstorage frame => responseCommand frame
  | .rspTcollector frame => responseCommand frame
  | .rspTflowCH2 frame => responseCommand frame
  | .rspTdhw2 frame => responseCommand frame
  | .rspTexhaust frame => responseCommand frame
  | .rspTdhwSetUBTdhwSetLB frame => responseCommand frame
  | .rspMaxTSetUBMaxTSetLB frame => responseCommand frame
  | .rspMaxTSet frame => responseCommand frame
  | .rspBurnerStarts frame => responseCommand frame
  | .rspCHPumpStarts frame => responseCommand frame
  | .rspDHWPumpValveStarts frame => responseCommand frame
  | .rspDHWBurnerStarts frame => responseCommand frame
  | .rspBurnerOperationHours frame => responseCommand frame
  | .rspCHPumpOperationHours frame => responseCommand frame
  | .rspDHWPumpValveOperationHours frame => responseCommand frame
  | .rspDHWBurnerOperationHours frame => responseCommand frame
  | .rspUnexpected frame => responseCommand frame
  | .codecDecodeSigned16 frame => codecCommand .decodeSigned16 frame
  | .codecDecodeFixedPoint frame => codecCommand .decodeFixedPoint frame
  | .codecDecodeHighByteSigned frame => codecCommand .decodeHighByteSigned frame
  | .codecDecodeLowByteSigned frame => codecCommand .decodeLowByteSigned frame
  | .codecDecodeUint16 frame => codecCommand .decodeUint16 frame
  | .codecDecodeFlag frame i => ⟨.codec .decodeFlag, frame, i⟩
  | .codecEncodeFixedPoint v => codecCommand .encodeFixedPoint v
  | .opStart => lifecycleCommand .start
  | .opTick => lifecycleCommand .tick
  | .opStop => lifecycleCommand .stop

/-- The command a word of the opcode table stands for: the first row, in the table's order, that has the word's
width and fixed bits (log entry 13). Only REQ rows fix bits above 23, so a word of up to 24 bits is a response;
a word of up to 16 bits is a codec operand, since rows without an identifier have no bits above 15; a 32-bit word
is the request row it matches, else a response. -/
def tableCommand (p : Config.Params) (nbits w : Nat) : Command :=
  let word := BitVec.ofNat 32 (w % 2 ^ nbits)
  if nbits = 0 then codecCommand .decodeFlag word
  else if nbits ≤ 8 then codecCommand .decodeLowByteSigned word
  else if nbits ≤ 16 then codecCommand .decodeSigned16 word
  else if nbits ≤ 24 then responseCommand word
  else
    match requestName p (frameId word) with
    | some n =>
      if word &&& requestMask n = requestMatch p n then requestCommand word else responseCommand word
    | none => responseCommand word

/-- The instruction the decoder reads from a word numbered as the opcode table numbers it, under the default
parameters. -/
def decodeTableWord (nbits w : Nat) : Option Instr :=
  (decode Config.defaults (tableCommand Config.defaults nbits w)).toOption

end Sys2Proof
end

