-- ==== Sys2Proof/Machine/State.lean ====
section
/-! DEFINITION. The state of the block, its ports and events, and the reasons a step can stop. -/

namespace Sys2Proof.Machine

/-- `LC`, the lifecycle state (10_state.md R28). -/
inductive Lifecycle where
  | constructed | running | stopped
  deriving DecidableEq, Repr

/-- The validity status of a delivery (30_encoding.md R89). -/
inductive Validity where
  | none | valid | invalid | timeout
  deriving DecidableEq, Repr

/-- The sensor kinds S1 to S25, in code order (42_response_dispatcher.md R181). -/
inductive SensorKind where
  | relModLevel | chPressure | dhwFlowRate
  | tBoiler | tDhw | tOutside | tRet | tStorage | tCollector | tFlowCh2 | tDhw2 | tExhaust
  | tdhwSetUb | tdhwSetLb | maxTsetUb | maxTsetLb | maxTset
  | burnerStarts | chPumpStarts | dhwPumpValveStarts | dhwBurnerStarts
  | burnerOperationHours | chPumpOperationHours | dhwPumpValveOperationHours | dhwBurnerOperationHours
  deriving DecidableEq, Repr

/-- The binary kinds B1 to B17, in code order (42_response_dispatcher.md R181). -/
inductive BinaryKind where
  | fault | chActive | dhwActive | flameOn | coolingActive | ch2Active | diagnostic
  | dhwPresent | controlType | coolingConfig | dhwConfig | masterLowOffPumpControl | ch2Present
  | dhwSetpointTransferEnable | maxChSetpointTransferEnable | dhwSetpointRw | maxChSetpointRw
  deriving DecidableEq, Repr

/-- A diagnostic with the information it records (60_exceptions.md R280). -/
inductive Diag where
  /-- Code 1, `E_INVALID_RESPONSE`: the status and the frame (R281). -/
  | invalidResponse (status : Validity) (frame : Frame)
  /-- Code 2, `E_UNEXPECTED_RESPONSE`: the identifier (R282). -/
  | unexpectedResponse (id : MsgId)
  /-- Code 3, `E_UNKNOWN_REQUEST`: the identifier (R283). -/
  | unknownRequest (id : MsgId)
  /-- Code 4, `LOG_ECHO`: the identifier and the decoded f8.8 value (R285). -/
  | logEcho (id : MsgId) (q : Rat)
  deriving DecidableEq, Repr

/-- An output event (10_state.md R36). Published numbers are exact rationals (00_scope.md R11, log entry 15). -/
inductive Event where
  | tx (frame : Frame)
  | process
  | pubS (kind : SensorKind) (q : Rat)
  | pubB (kind : BinaryKind) (b : Bool)
  | diag (d : Diag)
  deriving DecidableEq, Repr

/-- The answers of the five operating-flag inputs, `none` for absent (10_state.md R35). -/
structure FlagInputs where
  chEnable : Option Bool
  dhwEnable : Option Bool
  coolingEnable : Option Bool
  otcEnable : Option Bool
  ch2Enable : Option Bool
  deriving DecidableEq, Repr

/-- One response delivery (10_state.md R33). -/
structure Delivery where
  frame : Frame
  status : Validity
  deriving DecidableEq, Repr

/-- The input ports as the operation being taken reads them (10_state.md R32 to R35): draws of the environment
(log entry 3). `setpoints` answers `SP(id)` by its first pair for id; an identifier not listed is absent (log
entry 21). -/
structure Ports where
  ready : Bool
  rsp : Option Delivery
  setpoints : List (MsgId × Binary32)
  flags : FlagInputs
  deriving DecidableEq, Repr

/-- An operation the environment presents, with the port values it will read (log entry 1). -/
structure Presented where
  command : Command
  inputs : Ports
  deriving DecidableEq, Repr

/-- What a directly invoked combinational function returned (log entry 2): a codec result of 40_codec.md R101 to
R107, or a builder result of 41_request_builder.md R132. -/
inductive Returned where
  | nothing
  | int (v : Int)
  | rational (q : Rat)
  | bool (b : Bool)
  | payload (v : Payload)
  | built (frame : Frame)
  | unknownRequest (id : MsgId)
  deriving DecidableEq, Repr

/-- The machine. `params` to `events` are the spec's (00_scope.md R7, 10_state.md R20, R38, 70_reset_and_hazards.md
R310), `ports` are its input ports, `pending` and `returned` are the model's own (log entries 1 and 2). -/
structure State where
  params : Config.Params
  cfgInit : List MsgId
  cfgRep : List MsgId
  rep : List MsgId
  initializing : Bool
  cursor : Nat
  lc : Lifecycle
  events : List Event
  ports : Ports
  pending : List Presented
  returned : Returned
  deriving DecidableEq, Repr

/-- The reasons a step faults. -/
inductive Fault where
  /-- OP.TICK, when the ready tick would read a schedule entry beyond the active list. 10_state.md R27 rules this
  out in every reachable state, and the invariant `Inv` proves it; safe (log entry 11). -/
  | cursorOutOfRange
  deriving DecidableEq, Repr

/-- The reasons a step refuses. -/
inductive Refusal where
  /-- An instruction the model gives no meaning; safe. No arm of exec raises it now. -/
  | notModelled (mnemonic : String)
  /-- OP.TICK before START, also one that delivers a frame at the response port: the spec has no step
  (43_scheduler.md R240); safe (log entry 12). -/
  | tickBeforeStart
  /-- OP.START in RUNNING or STOPPED: the spec has no step (43_scheduler.md R240); safe (log entry 12). -/
  | startRepeated
  /-- CODEC.decode_flag with an index of 32 or more: not an operand (40_codec.md R106); safe (log entry 12). -/
  | flagIndexOutOfRange
  /-- step, when the presented command is no instruction (Decode.lean); safe (log entry 14). -/
  | undecodable (why : Reject)
  deriving DecidableEq, Repr

/-- Every input port at rest: not ready, no delivery, every setpoint and flag absent (log entry 23). -/
def Ports.idle : Ports where
  ready := false
  rsp := none
  setpoints := []
  flags := ⟨none, none, none, none, none⟩

/-- The block after construction with a configuration (70_reset_and_hazards.md R310, R311): `initializing` true,
`cursor` 0, `LC` CONSTRUCTED, no event; `REP` holds no value yet, held as the empty list (log entry 10). -/
def State.construct (p : Config.Params) (init rep : List MsgId) : State where
  params := p
  cfgInit := init
  cfgRep := rep
  rep := []
  initializing := true
  cursor := 0
  lc := .constructed
  events := []
  ports := Ports.idle
  pending := []
  returned := .nothing

/-- The block after reset: construction (70_reset_and_hazards.md R310) with the default parameters and, since no
program may be invented, empty configured lists (log entry 10). -/
def State.reset : State := State.construct Config.defaults [] []

end Sys2Proof.Machine
end

