-- ==== Sys2Proof/Machine/Ops.lean ====
section
/-! DEFINITION. The named operations over the state: emitting events, raising an error, returning a value, the moves
of the scheduler's state, and taking the next presented operation. -/

namespace Sys2Proof.Machine

/-- The outcome of a meaning. -/
abbrev Out := Host.Outcome State Fault Refusal

/-- Runs f after an outcome that is a next state; a stop stays what it is. -/
def thenState (o : Out) (f : State → State) : Out :=
  match o with
  | .next s => .next (f s)
  | .fault r => .fault r
  | .refused r => .refused r

/-- `emit E`, for the events of a rule in order: append to the event history (00_scope.md R10, 20_memory.md R56). -/
def State.emit (s : State) (es : List Event) : State := { s with events := s.events ++ es }

/-- `raise <Error>(info)`: the event of the named error, and nothing else. The block has no trap: no control
transfer, no saved state, no mode change, and so no return either (00_scope.md R10, 60_exceptions.md R280, R286,
R287). -/
def raise (d : Diag) : Event := .diag d

/-- The value a combinational function returns when it is invoked directly (log entry 2). -/
def State.returning (s : State) (r : Returned) : State := { s with returned := r }

/-- The active list: `CFG_INIT` while initializing, `REP` afterwards (10_state.md R26). -/
def State.activeList (s : State) : List MsgId := if s.initializing then s.cfgInit else s.rep

/-- The effective repeating list, never empty: `[ID(Status)]` when `CFG_REP` is (10_state.md R24). -/
def State.effectiveRep (s : State) : List MsgId :=
  if s.cfgRep.length = 0 then [s.params.idMap.idOf .status] else s.cfgRep

/-- What START writes (43_scheduler.md R241). -/
def State.started (s : State) : State :=
  { s with rep := s.effectiveRep, initializing := true, cursor := 0, lc := .running }

/-- What STOP writes (43_scheduler.md R243). -/
def State.halted (s : State) : State := { s with lc := .stopped }

/-- The phase change: REPEATING, at the start of `REP` (43_scheduler.md R246). -/
def State.enterRepeating (s : State) : State := { s with initializing := false, cursor := 0 }

/-- The wrap: back to the start of `REP` (43_scheduler.md R247). -/
def State.wrapCursor (s : State) : State := { s with cursor := 0 }

/-- The advance by one entry (43_scheduler.md R248). -/
def State.advance (s : State) : State := { s with cursor := s.cursor + 1 }

/-- The delivery is taken from the port: it is cleared by being delivered and never pending across operations
(60_exceptions.md R289, log entry 16). -/
def State.deliveryTaken (s : State) : State := { s with ports := { s.ports with rsp := none } }

/-- The port values a presented operation reads. A command at the response port is a TICK that reads not ready and
in which the transceiver delivers the frame, VALID: the spec has no other way for a frame to reach the block
(60_exceptions.md R289, R296, log entry 18). -/
def Presented.ports (c : Presented) : Ports :=
  match c.command.port with
  | .response => { c.inputs with ready := false, rsp := some ⟨c.command.word, .valid⟩ }
  | .request => c.inputs
  | .codec _ => c.inputs
  | .lifecycle _ => c.inputs

/-- Takes the oldest presented operation: it leaves the list and its port values stand at the ports (log entries
1 and 3). -/
def State.take (s : State) : Option (Command × State) :=
  match s.pending with
  | [] => none
  | c :: rest => some (c.command, { s with pending := rest, ports := c.ports })

/-- Presents a command as the very next operation, at the port values that stand now. -/
def State.presentNext (s : State) (c : Command) : State := { s with pending := ⟨c, s.ports⟩ :: s.pending }

/-- The block made ready to take ticks: as it stands in RUNNING, else as START leaves it (log entry 17). -/
def State.operating (s : State) : State := if s.lc = .running then s else s.started

/-- Appends operations the environment presents after those already pending. -/
def State.present (s : State) (ops : List Presented) : State := { s with pending := s.pending ++ ops }

/-- The width of the cursor, ceil(log2(P_LIST_MAX + 1)) bits (10_state.md R26): for `P_LIST_MAX` of at least 1
this is one more than floor(log2 P_LIST_MAX). -/
def cursorWidth (p : Config.Params) : Nat := Nat.log2 p.listMax + 1

end Sys2Proof.Machine
end

