-- ==== Sys2Proof/Machine/Operands.lean ====
section
/-! DEFINITION. The operand forms: the setpoint and flag inputs, binary32 values as exact numbers, and the payload
formats of a frame (30_encoding.md R78). -/

namespace Sys2Proof.Machine

/-- `SP(id)`: the setpoint input's answer, `none` for absent (00_scope.md R10, 10_state.md R34). -/
def Ports.setpoint (ports : Ports) (id : MsgId) : Option Binary32 := ports.setpoints.lookup id

/-- The value a setpoint build uses: an absent setpoint resolves to 0.0 (41_request_builder.md R163). -/
def setpointOrZero (answer : Option Binary32) : Binary32 := answer.getD 0

/-- A flag answer as a bit: absent reads as false (10_state.md R35, 41_request_builder.md R164). -/
def flagBit (answer : Option Bool) : Bool := answer.getD false

/-- The value of 32 bits read as binary32: sign bit 31, biased exponent in bits 30 to 23, fraction in bits 22 to 0;
a finite value is ± significand · 2^(exponent − 150), exactly. The layout is IEEE 754's (log entry 7). -/
def binary32Number (v : Binary32) : Number :=
  let negative := v.getLsbD 31
  let exponent := v.toNat / 2 ^ 23 % 256
  let fraction := v.toNat % 2 ^ 23
  if exponent = 255 then
    if fraction = 0 then .infinity negative else .nan
  else
    let significand := if exponent = 0 then fraction else fraction + 2 ^ 23
    let e := if exponent = 0 then 1 else exponent
    let magnitude : Int := (significand * 2 ^ (e - 150) : Nat)
    .finite (mkRat (if negative then -magnitude else magnitude) (2 ^ (150 - e)))

/-- `trunc(q)`: the integer nearest to q in the direction of zero (00_scope.md R9). -/
def trunc (q : Rat) : Int := q.num.tdiv q.den

/-- `clamp(v)`: 0 below 0, 100 above 100, NaN staying NaN (40_codec.md R108). -/
def clamp (n : Number) : Number :=
  match n with
  | .nan => .nan
  | .infinity negative => .finite (if negative then 0 else 100)
  | .finite q => .finite (if q < 0 then 0 else if 100 < q then 100 else q)

/-- The s16 format (30_encoding.md R78): `decode_signed16` (40_codec.md R101). -/
def decodeSigned16 (frame : Frame) : Int := (framePayload frame).toInt

/-- The f8.8 format: `decode_fixed_point`, the signed payload divided by 256, exactly (40_codec.md R102). -/
def decodeFixedPoint (frame : Frame) : Rat := mkRat (framePayload frame).toInt 256

/-- `decode_high_byte_signed`: frame[15:8] as a signed byte (40_codec.md R103). -/
def decodeHighByteSigned (frame : Frame) : Int := (frame.extractLsb' 8 8).toInt

/-- `decode_low_byte_signed`: frame[7:0] as a signed byte (40_codec.md R104). -/
def decodeLowByteSigned (frame : Frame) : Int := (frame.extractLsb' 0 8).toInt

/-- The u16 format: `decode_uint16` (40_codec.md R105). -/
def decodeUint16 (frame : Frame) : Int := (framePayload frame).toNat

/-- `encode_fixed_point` under a range mode (40_codec.md R107): scale by 256 exactly (R114), truncate toward zero,
keep the low 16 bits. NaN, an infinity and a scaled magnitude of 2^31 or more give the draw `P_ENC_OOR(v)` (R109). The
bits of v matter only through the number they stand for (R114). -/
def encodeFixedPoint (mode : Config.EncMode) (v : Binary32) : Payload :=
  let n := binary32Number v
  let w := match mode with
    | .wrap => n
    | .clamp0to100 => clamp n
  match w with
  | .finite q =>
    if -(2 ^ 31) < q * 256 ∧ q * 256 < 2 ^ 31 then BitVec.ofInt 16 (trunc (q * 256))
    else Config.encOutOfRange n
  | _ => Config.encOutOfRange n

end Sys2Proof.Machine
end

