-- ==== Sys2Proof/Machine/Flags.lean ====
section
/-! DEFINITION. Single bits: the flag test, the parity bit, the flag layouts of 30_encoding.md R79 to R82, and the
numeric codes of statuses, kinds and diagnostics. The block has no condition codes (10_state.md R30). -/

namespace Sys2Proof.Machine

/-- `decode_flag(frame, i)`: bit i of the whole 32-bit frame (40_codec.md R106). -/
def decodeFlag (frame : Frame) (i : Nat) : Bool := frame.getLsbD i

/-- The number of one bits among bits 0 to n − 1. -/
def popcountBelow (w : Frame) : Nat → Nat
  | 0 => 0
  | n + 1 => popcountBelow w n + (w.getLsbD n).toNat

/-- `Parity(w)`: under EVEN the parity of the one bits in w[30:0], under ZERO the bit 0 (41_request_builder.md
R131). -/
def parityBit (mode : Config.ParityMode) (w : Frame) : Bool :=
  match mode with
  | .even => popcountBelow w 31 % 2 == 1
  | .zero => false

/-- The Status request's payload: the five master flags in HB bits 0 to 4, in the source's list order, all else
zero (30_encoding.md R79, 41_request_builder.md R133). -/
def statusPayload (f : FlagInputs) : Payload :=
  let bit (answer : Option Bool) (i : Nat) : Payload := (BitVec.ofBool (flagBit answer)).zeroExtend 16 <<< i
  bit f.chEnable 8 ||| bit f.dhwEnable 9 ||| bit f.coolingEnable 10 ||| bit f.otcEnable 11 ||| bit f.ch2Enable 12

/-- The base bit of the slave-configuration flags (30_encoding.md R81). -/
def configFlagBase (b : Config.FlagByte) : Nat :=
  match b with
  | .lb => 0
  | .hb => 8

/-- The 2-bit code of a validity status (30_encoding.md R89). -/
def Validity.code (v : Validity) : BitVec 2 :=
  match v with
  | .none => 0
  | .valid => 1
  | .invalid => 2
  | .timeout => 3

/-- The status a 2-bit code stands for (30_encoding.md R89). -/
def Validity.ofCode (c : BitVec 2) : Validity :=
  if c = 0 then .none else if c = 1 then .valid else if c = 2 then .invalid else .timeout

/-- The code of a diagnostic (60_exceptions.md R280). -/
def Diag.code (d : Diag) : Nat :=
  match d with
  | .invalidResponse _ _ => 1
  | .unexpectedResponse _ => 2
  | .unknownRequest _ => 3
  | .logEcho _ _ => 4

/-- The code n of a sensor kind S<n> and the identifier it belongs to (42_response_dispatcher.md R181). -/
def SensorKind.codeOwner (k : SensorKind) : Nat × MsgName :=
  match k with
  | .relModLevel => (1, .relModLevel)
  | .chPressure => (2, .chPressure)
  | .dhwFlowRate => (3, .dhwFlowRate)
  | .tBoiler => (4, .tboiler)
  | .tDhw => (5, .tdhw)
  | .tOutside => (6, .toutside)
  | .tRet => (7, .tret)
  | .tStorage => (8, .tstorage)
  | .tCollector => (9, .tcollector)
  | .tFlowCh2 => (10, .tflowCH2)
  | .tDhw2 => (11, .tdhw2)
  | .tExhaust => (12, .texhaust)
  | .tdhwSetUb => (13, .tdhwSetUBTdhwSetLB)
  | .tdhwSetLb => (14, .tdhwSetUBTdhwSetLB)
  | .maxTsetUb => (15, .maxTSetUBMaxTSetLB)
  | .maxTsetLb => (16, .maxTSetUBMaxTSetLB)
  | .maxTset => (17, .maxTSet)
  | .burnerStarts => (18, .burnerStarts)
  | .chPumpStarts => (19, .chPumpStarts)
  | .dhwPumpValveStarts => (20, .dhwPumpValveStarts)
  | .dhwBurnerStarts => (21, .dhwBurnerStarts)
  | .burnerOperationHours => (22, .burnerOperationHours)
  | .chPumpOperationHours => (23, .chPumpOperationHours)
  | .dhwPumpValveOperationHours => (24, .dhwPumpValveOperationHours)
  | .dhwBurnerOperationHours => (25, .dhwBurnerOperationHours)

/-- The code n of a binary kind B<n> and the identifier it belongs to (42_response_dispatcher.md R181). -/
def BinaryKind.codeOwner (k : BinaryKind) : Nat × MsgName :=
  match k with
  | .fault => (1, .status)
  | .chActive => (2, .status)
  | .dhwActive => (3, .status)
  | .flameOn => (4, .status)
  | .coolingActive => (5, .status)
  | .ch2Active => (6, .status)
  | .diagnostic => (7, .status)
  | .dhwPresent => (8, .sConfigSMemberIDcode)
  | .controlType => (9, .sConfigSMemberIDcode)
  | .coolingConfig => (10, .sConfigSMemberIDcode)
  | .dhwConfig => (11, .sConfigSMemberIDcode)
  | .masterLowOffPumpControl => (12, .sConfigSMemberIDcode)
  | .ch2Present => (13, .sConfigSMemberIDcode)
  | .dhwSetpointTransferEnable => (14, .rbpFlags)
  | .maxChSetpointTransferEnable => (15, .rbpFlags)
  | .dhwSetpointRw => (16, .rbpFlags)
  | .maxChSetpointRw => (17, .rbpFlags)

/-- The sink view of a sensor kind: the last value published under it (10_state.md R37). -/
def sinkSensor (history : List Event) (k : SensorKind) : Option Rat :=
  history.foldl (fun last e => match e with
    | .pubS k' q => if k' = k then some q else last
    | _ => last) none

/-- The sink view of a binary kind: the last value published under it (10_state.md R37). -/
def sinkBinary (history : List Event) (k : BinaryKind) : Option Bool :=
  history.foldl (fun last e => match e with
    | .pubB k' b => if k' = k then some b else last
    | _ => last) none

end Sys2Proof.Machine
end

