-- ==== Sys2Proof/Machine/Codec.lean ====
section
/-! DEFINITION. The meanings of the CODEC rows (40_codec.md): each returns its value and changes nothing else (R100). -/

namespace Sys2Proof.Machine

/-- Meaning of CODEC.decode_signed16 (40_codec.md R101). -/
def execCodecDecodeSigned16 (frame : Frame) (s : State) : Out :=
  .next (s.returning (.int (decodeSigned16 frame)))

/-- Meaning of CODEC.decode_fixed_point (40_codec.md R102). -/
def execCodecDecodeFixedPoint (frame : Frame) (s : State) : Out :=
  .next (s.returning (.rational (decodeFixedPoint frame)))

/-- Meaning of CODEC.decode_high_byte_signed (40_codec.md R103). -/
def execCodecDecodeHighByteSigned (frame : Frame) (s : State) : Out :=
  .next (s.returning (.int (decodeHighByteSigned frame)))

/-- Meaning of CODEC.decode_low_byte_signed (40_codec.md R104). -/
def execCodecDecodeLowByteSigned (frame : Frame) (s : State) : Out :=
  .next (s.returning (.int (decodeLowByteSigned frame)))

/-- Meaning of CODEC.decode_uint16 (40_codec.md R105). -/
def execCodecDecodeUint16 (frame : Frame) (s : State) : Out :=
  .next (s.returning (.int (decodeUint16 frame)))

/-- Meaning of CODEC.decode_flag: every index 0 to 31 is legal; 32 or more is no operand (40_codec.md R106). -/
def execCodecDecodeFlag (frame : Frame) (i : Nat) (s : State) : Out :=
  if i < 32 then .next (s.returning (.bool (decodeFlag frame i))) else .refused .flagIndexOutOfRange

/-- Meaning of CODEC.encode_fixed_point under `P_ENC_MODE` (40_codec.md R107 to R109). -/
def execCodecEncodeFixedPoint (v : Binary32) (s : State) : Out :=
  .next (s.returning (.payload (encodeFixedPoint s.params.encMode v)))

end Sys2Proof.Machine
end

