-- ==== Sys2Proof/Machine/Request.lean ====
section
/-! DEFINITION. The Request Builder (41_request_builder.md): frame assembly, one builder function per row, the
selection by identifier, and the meanings of the REQ rows. -/

namespace Sys2Proof.Machine

/-- `MakeFrame(t, id, data)`: type bits, identifier and payload in their places, bits 30-29 and 27-24 zero, and the
parity bit (41_request_builder.md R130, R131). -/
def makeFrame (p : Config.Params) (t : Config.MsgType) (id : MsgId) (data : Payload) : Frame :=
  let w := typeBits t ||| (id.zeroExtend 32 <<< 16) ||| data.zeroExtend 32
  w ||| ((BitVec.ofBool (parityBit p.parity w)).zeroExtend 32 <<< 31)

/-- The result of a build: `ok(frame)`, or `fail(UNKNOWN_REQUEST, id)`, which carries no frame (41_request_builder.md
R132, R161, R162). -/
inductive BuildResult where
  | ok (frame : Frame)
  | fail (id : MsgId)
  deriving DecidableEq, Repr

/-- A read request: READ_DATA with a zero payload (30_encoding.md R84). -/
def readRequest (p : Config.Params) (n : MsgName) : BuildResult :=
  .ok (makeFrame p .readData (p.idMap.idOf n) 0)

/-- A write-setpoint request: WRITE_DATA with the encoded setpoint, which is queried once under the identifier's own
number and resolves to 0.0 when absent (30_encoding.md R84, 41_request_builder.md R163). -/
def setpointRequest (p : Config.Params) (ports : Ports) (n : MsgName) : BuildResult :=
  let id := p.idMap.idOf n
  .ok (makeFrame p .writeData id (encodeFixedPoint p.encMode (setpointOrZero (ports.setpoint id))))

/-- `fail(UNKNOWN_REQUEST, id)`: no frame and no event (41_request_builder.md R161). -/
def buildUnknown (id : MsgId) : BuildResult := .fail id

/-- REQ.Status: the five flags, absent as false, under the message type `P_STATUS_TYPE` (41_request_builder.md R133). -/
def buildStatus (p : Config.Params) (ports : Ports) : BuildResult :=
  .ok (makeFrame p p.statusType (p.idMap.idOf .status) (statusPayload ports.flags))

/-- REQ.TSet (41_request_builder.md R134). -/
def buildTSet (p : Config.Params) (ports : Ports) : BuildResult := setpointRequest p ports .tSet

/-- REQ.TsetCH2, with its own setpoint query (41_request_builder.md R135). -/
def buildTsetCH2 (p : Config.Params) (ports : Ports) : BuildResult := setpointRequest p ports .tsetCH2

/-- REQ.SConfigSMemberIDcode (41_request_builder.md R136). -/
def buildSConfigSMemberIDcode (p : Config.Params) : BuildResult := readRequest p .sConfigSMemberIDcode

/-- REQ.RBPflags (41_request_builder.md R137). -/
def buildRBPflags (p : Config.Params) : BuildResult := readRequest p .rbpFlags

/-- REQ.RelModLevel (41_request_builder.md R138). -/
def buildRelModLevel (p : Config.Params) : BuildResult := readRequest p .relModLevel

/-- REQ.CHPressure (41_request_builder.md R139). -/
def buildCHPressure (p : Config.Params) : BuildResult := readRequest p .chPressure

/-- REQ.DHWFlowRate (41_request_builder.md R140). -/
def buildDHWFlowRate (p : Config.Params) : BuildResult := readRequest p .dhwFlowRate

/-- REQ.Tboiler (41_request_builder.md R141). -/
def buildTboiler (p : Config.Params) : BuildResult := readRequest p .tboiler

/-- REQ.Tdhw (41_request_builder.md R142). -/
def buildTdhw (p : Config.Params) : BuildResult := readRequest p .tdhw

/-- REQ.Toutside (41_request_builder.md R143). -/
def buildToutside (p : Config.Params) : BuildResult := readRequest p .toutside

/-- REQ.Tret (41_request_builder.md R144). -/
def buildTret (p : Config.Params) : BuildResult := readRequest p .tret

/-- REQ.Tstorage (41_request_builder.md R145). -/
def buildTstorage (p : Config.Params) : BuildResult := readRequest p .tstorage

/-- REQ.Tcollector (41_request_builder.md R146). -/
def buildTcollector (p : Config.Params) : BuildResult := readRequest p .tcollector

/-- REQ.TflowCH2 (41_request_builder.md R147). -/
def buildTflowCH2 (p : Config.Params) : BuildResult := readRequest p .tflowCH2

/-- REQ.Tdhw2 (41_request_builder.md R148). -/
def buildTdhw2 (p : Config.Params) : BuildResult := readRequest p .tdhw2

/-- REQ.Texhaust (41_request_builder.md R149). -/
def buildTexhaust (p : Config.Params) : BuildResult := readRequest p .texhaust

/-- REQ.TdhwSetUBTdhwSetLB (41_request_builder.md R150). -/
def buildTdhwSetUBTdhwSetLB (p : Config.Params) : BuildResult := readRequest p .tdhwSetUBTdhwSetLB

/-- REQ.MaxTSetUBMaxTSetLB (41_request_builder.md R151). -/
def buildMaxTSetUBMaxTSetLB (p : Config.Params) : BuildResult := readRequest p .maxTSetUBMaxTSetLB

/-- REQ.MaxTSet; without `P_MAXTSET_REQ` it is outside `BUILD_SET` and the build fails (41_request_builder.md R152). -/
def buildMaxTSet (p : Config.Params) : BuildResult :=
  if p.maxTSetReq then readRequest p .maxTSet else buildUnknown (p.idMap.idOf .maxTSet)

/-- REQ.BurnerStarts (41_request_builder.md R153). -/
def buildBurnerStarts (p : Config.Params) : BuildResult := readRequest p .burnerStarts

/-- REQ.CHPumpStarts (41_request_builder.md R154). -/
def buildCHPumpStarts (p : Config.Params) : BuildResult := readRequest p .chPumpStarts

/-- REQ.DHWPumpValveStarts (41_request_builder.md R155). -/
def buildDHWPumpValveStarts (p : Config.Params) : BuildResult := readRequest p .dhwPumpValveStarts

/-- REQ.DHWBurnerStarts (41_request_builder.md R156). -/
def buildDHWBurnerStarts (p : Config.Params) : BuildResult := readRequest p .dhwBurnerStarts

/-- REQ.BurnerOperationHours (41_request_builder.md R157). -/
def buildBurnerOperationHours (p : Config.Params) : BuildResult := readRequest p .burnerOperationHours

/-- REQ.CHPumpOperationHours (41_request_builder.md R158). -/
def buildCHPumpOperationHours (p : Config.Params) : BuildResult := readRequest p .chPumpOperationHours

/-- REQ.DHWPumpValveOperationHours (41_request_builder.md R159). -/
def buildDHWPumpValveOperationHours (p : Config.Params) : BuildResult := readRequest p .dhwPumpValveOperationHours

/-- REQ.DHWBurnerOperationHours (41_request_builder.md R160). -/
def buildDHWBurnerOperationHours (p : Config.Params) : BuildResult := readRequest p .dhwBurnerOperationHours

/-- The builder function of a name. -/
def buildNamed (p : Config.Params) (ports : Ports) (n : MsgName) : BuildResult :=
  match n with
  | .status => buildStatus p ports
  | .tSet => buildTSet p ports
  | .tsetCH2 => buildTsetCH2 p ports
  | .sConfigSMemberIDcode => buildSConfigSMemberIDcode p
  | .rbpFlags => buildRBPflags p
  | .relModLevel => buildRelModLevel p
  | .chPressure => buildCHPressure p
  | .dhwFlowRate => buildDHWFlowRate p
  | .tboiler => buildTboiler p
  | .tdhw => buildTdhw p
  | .toutside => buildToutside p
  | .tret => buildTret p
  | .tstorage => buildTstorage p
  | .tcollector => buildTcollector p
  | .tflowCH2 => buildTflowCH2 p
  | .tdhw2 => buildTdhw2 p
  | .texhaust => buildTexhaust p
  | .tdhwSetUBTdhwSetLB => buildTdhwSetUBTdhwSetLB p
  | .maxTSetUBMaxTSetLB => buildMaxTSetUBMaxTSetLB p
  | .maxTSet => buildMaxTSet p
  | .burnerStarts => buildBurnerStarts p
  | .chPumpStarts => buildCHPumpStarts p
  | .dhwPumpValveStarts => buildDHWPumpValveStarts p
  | .dhwBurnerStarts => buildDHWBurnerStarts p
  | .burnerOperationHours => buildBurnerOperationHours p
  | .chPumpOperationHours => buildCHPumpOperationHours p
  | .dhwPumpValveOperationHours => buildDHWPumpValveOperationHours p
  | .dhwBurnerOperationHours => buildDHWBurnerOperationHours p

/-- `build(id)`: the rule is selected by the identifier alone; outside `BUILD_SET` the build fails
(41_request_builder.md R132, R161). -/
def build (p : Config.Params) (ports : Ports) (id : MsgId) : BuildResult :=
  match requestName p id with
  | some n => buildNamed p ports n
  | none => buildUnknown id

/-- What a directly invoked builder returns; it reads and writes no block state and emits no event
(41_request_builder.md R165, log entry 2). -/
def State.deliver (s : State) (r : BuildResult) : State :=
  s.returning (match r with
    | .ok frame => .built frame
    | .fail id => .unknownRequest id)

/-- Meaning of REQ.Status (41_request_builder.md R133). -/
def execReqStatus (s : State) : Out := .next (s.deliver (buildStatus s.params s.ports))

/-- Meaning of REQ.TSet (41_request_builder.md R134). -/
def execReqTSet (s : State) : Out := .next (s.deliver (buildTSet s.params s.ports))

/-- Meaning of REQ.TsetCH2 (41_request_builder.md R135). -/
def execReqTsetCH2 (s : State) : Out := .next (s.deliver (buildTsetCH2 s.params s.ports))

/-- Meaning of REQ.SConfigSMemberIDcode (41_request_builder.md R136). -/
def execReqSConfigSMemberIDcode (s : State) : Out := .next (s.deliver (buildSConfigSMemberIDcode s.params))

/-- Meaning of REQ.RBPflags (41_request_builder.md R137). -/
def execReqRBPflags (s : State) : Out := .next (s.deliver (buildRBPflags s.params))

/-- Meaning of REQ.RelModLevel (41_request_builder.md R138). -/
def execReqRelModLevel (s : State) : Out := .next (s.deliver (buildRelModLevel s.params))

/-- Meaning of REQ.CHPressure (41_request_builder.md R139). -/
def execReqCHPressure (s : State) : Out := .next (s.deliver (buildCHPressure s.params))

/-- Meaning of REQ.DHWFlowRate (41_request_builder.md R140). -/
def execReqDHWFlowRate (s : State) : Out := .next (s.deliver (buildDHWFlowRate s.params))

/-- Meaning of REQ.Tboiler (41_request_builder.md R141). -/
def execReqTboiler (s : State) : Out := .next (s.deliver (buildTboiler s.params))

/-- Meaning of REQ.Tdhw (41_request_builder.md R142). -/
def execReqTdhw (s : State) : Out := .next (s.deliver (buildTdhw s.params))

/-- Meaning of REQ.Toutside (41_request_builder.md R143). -/
def execReqToutside (s : State) : Out := .next (s.deliver (buildToutside s.params))

/-- Meaning of REQ.Tret (41_request_builder.md R144). -/
def execReqTret (s : State) : Out := .next (s.deliver (buildTret s.params))

/-- Meaning of REQ.Tstorage (41_request_builder.md R145). -/
def execReqTstorage (s : State) : Out := .next (s.deliver (buildTstorage s.params))

/-- Meaning of REQ.Tcollector (41_request_builder.md R146). -/
def execReqTcollector (s : State) : Out := .next (s.deliver (buildTcollector s.params))

/-- Meaning of REQ.TflowCH2 (41_request_builder.md R147). -/
def execReqTflowCH2 (s : State) : Out := .next (s.deliver (buildTflowCH2 s.params))

/-- Meaning of REQ.Tdhw2 (41_request_builder.md R148). -/
def execReqTdhw2 (s : State) : Out := .next (s.deliver (buildTdhw2 s.params))

/-- Meaning of REQ.Texhaust (41_request_builder.md R149). -/
def execReqTexhaust (s : State) : Out := .next (s.deliver (buildTexhaust s.params))

/-- Meaning of REQ.TdhwSetUBTdhwSetLB (41_request_builder.md R150). -/
def execReqTdhwSetUBTdhwSetLB (s : State) : Out := .next (s.deliver (buildTdhwSetUBTdhwSetLB s.params))

/-- Meaning of REQ.MaxTSetUBMaxTSetLB (41_request_builder.md R151). -/
def execReqMaxTSetUBMaxTSetLB (s : State) : Out := .next (s.deliver (buildMaxTSetUBMaxTSetLB s.params))

/-- Meaning of REQ.MaxTSet (41_request_builder.md R152). -/
def execReqMaxTSet (s : State) : Out := .next (s.deliver (buildMaxTSet s.params))

/-- Meaning of REQ.BurnerStarts (41_request_builder.md R153). -/
def execReqBurnerStarts (s : State) : Out := .next (s.deliver (buildBurnerStarts s.params))

/-- Meaning of REQ.CHPumpStarts (41_request_builder.md R154). -/
def execReqCHPumpStarts (s : State) : Out := .next (s.deliver (buildCHPumpStarts s.params))

/-- Meaning of REQ.DHWPumpValveStarts (41_request_builder.md R155). -/
def execReqDHWPumpValveStarts (s : State) : Out := .next (s.deliver (buildDHWPumpValveStarts s.params))

/-- Meaning of REQ.DHWBurnerStarts (41_request_builder.md R156). -/
def execReqDHWBurnerStarts (s : State) : Out := .next (s.deliver (buildDHWBurnerStarts s.params))

/-- Meaning of REQ.BurnerOperationHours (41_request_builder.md R157). -/
def execReqBurnerOperationHours (s : State) : Out := .next (s.deliver (buildBurnerOperationHours s.params))

/-- Meaning of REQ.CHPumpOperationHours (41_request_builder.md R158). -/
def execReqCHPumpOperationHours (s : State) : Out := .next (s.deliver (buildCHPumpOperationHours s.params))

/-- Meaning of REQ.DHWPumpValveOperationHours (41_request_builder.md R159). -/
def execReqDHWPumpValveOperationHours (s : State) : Out := .next (s.deliver (buildDHWPumpValveOperationHours s.params))

/-- Meaning of REQ.DHWBurnerOperationHours (41_request_builder.md R160). -/
def execReqDHWBurnerOperationHours (s : State) : Out := .next (s.deliver (buildDHWBurnerOperationHours s.params))

/-- Meaning of REQ.<unknown> (41_request_builder.md R161). -/
def execReqUnknown (id : MsgId) (s : State) : Out := .next (s.deliver (buildUnknown id))

end Sys2Proof.Machine
end

