-- ==== Sys2Proof/Machine/Response.lean ====
section
/-! DEFINITION. The Response Dispatcher (42_response_dispatcher.md): the events of every rule, the selection by
validity and identifier, and the meanings of the RSP rows. The events are functions of the parameters and the frame:
the dispatcher reads and writes no block state (R213). A meaning is the rule itself; step runs it inside the receive phase
of a tick and nowhere else (60_exceptions.md R289). -/

namespace Sys2Proof.Machine

/-- One numeric publish of an f8.8 reading. -/
def publishFixedPoint (k : SensorKind) (frame : Frame) : List Event := [.pubS k (decodeFixedPoint frame)]

/-- One numeric publish of an s16 reading, unscaled. -/
def publishSigned16 (k : SensorKind) (frame : Frame) : List Event := [.pubS k (decodeSigned16 frame : Int)]

/-- One numeric publish of a u16 reading. -/
def publishUint16 (k : SensorKind) (frame : Frame) : List Event := [.pubS k (decodeUint16 frame : Int)]

/-- Two numeric publishes of a boundary pair: the upper bound from HB, then the lower bound from LB
(30_encoding.md R83). -/
def publishPair (ub lb : SensorKind) (frame : Frame) : List Event :=
  [.pubS ub (decodeHighByteSigned frame : Int), .pubS lb (decodeLowByteSigned frame : Int)]

/-- The logged echo of a setpoint response (60_exceptions.md R285). -/
def logEcho (id : MsgId) (frame : Frame) : List Event := [raise (.logEcho id (decodeFixedPoint frame))]

/-- One Boolean publish of a frame bit. -/
def publishFlag (k : BinaryKind) (frame : Frame) (i : Nat) : Event := .pubB k (decodeFlag frame i)

/-- RSP.Status: seven flags, frame bits 0 to 6 (42_response_dispatcher.md R185). -/
def respondStatus (frame : Frame) : List Event :=
  [publishFlag .fault frame 0, publishFlag .chActive frame 1, publishFlag .dhwActive frame 2,
    publishFlag .flameOn frame 3, publishFlag .coolingActive frame 4, publishFlag .ch2Active frame 5,
    publishFlag .diagnostic frame 6]

/-- RSP.TSet: logged, not forwarded (42_response_dispatcher.md R186). -/
def respondTSet (p : Config.Params) (frame : Frame) : List Event := logEcho (p.idMap.idOf .tSet) frame

/-- RSP.TsetCH2: logged, not forwarded (42_response_dispatcher.md R187). -/
def respondTsetCH2 (p : Config.Params) (frame : Frame) : List Event := logEcho (p.idMap.idOf .tsetCH2) frame

/-- RSP.SConfigSMemberIDcode: six flags in the byte `P_CONFIG_FLAG_BYTE` names (42_response_dispatcher.md R188). -/
def respondSConfigSMemberIDcode (p : Config.Params) (frame : Frame) : List Event :=
  let base := configFlagBase p.configFlagByte
  [publishFlag .dhwPresent frame (base + 0), publishFlag .controlType frame (base + 1),
    publishFlag .coolingConfig frame (base + 2), publishFlag .dhwConfig frame (base + 3),
    publishFlag .masterLowOffPumpControl frame (base + 4), publishFlag .ch2Present frame (base + 5)]

/-- RSP.RBPflags: two flags of HB, then two of LB (42_response_dispatcher.md R189). -/
def respondRBPflags (frame : Frame) : List Event :=
  [publishFlag .dhwSetpointTransferEnable frame 8, publishFlag .maxChSetpointTransferEnable frame 9,
    publishFlag .dhwSetpointRw frame 0, publishFlag .maxChSetpointRw frame 1]

/-- RSP.RelModLevel (42_response_dispatcher.md R190). -/
def respondRelModLevel (frame : Frame) : List Event := publishFixedPoint .relModLevel frame

/-- RSP.CHPressure (42_response_dispatcher.md R191). -/
def respondCHPressure (frame : Frame) : List Event := publishFixedPoint .chPressure frame

/-- RSP.DHWFlowRate (42_response_dispatcher.md R192). -/
def respondDHWFlowRate (frame : Frame) : List Event := publishFixedPoint .dhwFlowRate frame

/-- RSP.Tboiler (42_response_dispatcher.md R193). -/
def respondTboiler (frame : Frame) : List Event := publishFixedPoint .tBoiler frame

/-- RSP.Tdhw (42_response_dispatcher.md R194). -/
def respondTdhw (frame : Frame) : List Event := publishFixedPoint .tDhw frame

/-- RSP.Toutside (42_response_dispatcher.md R195). -/
def respondToutside (frame : Frame) : List Event := publishFixedPoint .tOutside frame

/-- RSP.Tret (42_response_dispatcher.md R196). -/
def respondTret (frame : Frame) : List Event := publishFixedPoint .tRet frame

/-- RSP.Tstorage (42_response_dispatcher.md R197). -/
def respondTstorage (frame : Frame) : List Event := publishFixedPoint .tStorage frame

/-- RSP.Tcollector (42_response_dispatcher.md R198). -/
def respondTcollector (frame : Frame) : List Event := publishSigned16 .tCollector frame

/-- RSP.TflowCH2 (42_response_dispatcher.md R199). -/
def respondTflowCH2 (frame : Frame) : List Event := publishFixedPoint .tFlowCh2 frame

/-- RSP.Tdhw2 (42_response_dispatcher.md R200). -/
def respondTdhw2 (frame : Frame) : List Event := publishFixedPoint .tDhw2 frame

/-- RSP.Texhaust (42_response_dispatcher.md R201). -/
def respondTexhaust (frame : Frame) : List Event := publishSigned16 .tExhaust frame

/-- RSP.TdhwSetUBTdhwSetLB (42_response_dispatcher.md R202). -/
def respondTdhwSetUBTdhwSetLB (frame : Frame) : List Event := publishPair .tdhwSetUb .tdhwSetLb frame

/-- RSP.MaxTSetUBMaxTSetLB (42_response_dispatcher.md R203). -/
def respondMaxTSetUBMaxTSetLB (frame : Frame) : List Event := publishPair .maxTsetUb .maxTsetLb frame

/-- RSP.MaxTSet (42_response_dispatcher.md R204). -/
def respondMaxTSet (frame : Frame) : List Event := publishFixedPoint .maxTset frame

/-- RSP.BurnerStarts (42_response_dispatcher.md R205). -/
def respondBurnerStarts (frame : Frame) : List Event := publishUint16 .burnerStarts frame

/-- RSP.CHPumpStarts (42_response_dispatcher.md R206). -/
def respondCHPumpStarts (frame : Frame) : List Event := publishUint16 .chPumpStarts frame

/-- RSP.DHWPumpValveStarts (42_response_dispatcher.md R207). -/
def respondDHWPumpValveStarts (frame : Frame) : List Event := publishUint16 .dhwPumpValveStarts frame

/-- RSP.DHWBurnerStarts (42_response_dispatcher.md R208). -/
def respondDHWBurnerStarts (frame : Frame) : List Event := publishUint16 .dhwBurnerStarts frame

/-- RSP.BurnerOperationHours (42_response_dispatcher.md R209). -/
def respondBurnerOperationHours (frame : Frame) : List Event := publishUint16 .burnerOperationHours frame

/-- RSP.CHPumpOperationHours (42_response_dispatcher.md R210). -/
def respondCHPumpOperationHours (frame : Frame) : List Event := publishUint16 .chPumpOperationHours frame

/-- RSP.DHWPumpValveOperationHours (42_response_dispatcher.md R211). -/
def respondDHWPumpValveOperationHours (frame : Frame) : List Event := publishUint16 .dhwPumpValveOperationHours frame

/-- RSP.DHWBurnerOperationHours (42_response_dispatcher.md R212). -/
def respondDHWBurnerOperationHours (frame : Frame) : List Event := publishUint16 .dhwBurnerOperationHours frame

/-- RSP.<unexpected>: the diagnostic with the frame's identifier, no publish (42_response_dispatcher.md R184). -/
def respondUnexpected (frame : Frame) : List Event := [raise (.unexpectedResponse (frameId frame))]

/-- The events of a name's rule. -/
def respondNamed (p : Config.Params) (n : MsgName) (frame : Frame) : List Event :=
  match n with
  | .status => respondStatus frame
  | .tSet => respondTSet p frame
  | .tsetCH2 => respondTsetCH2 p frame
  | .sConfigSMemberIDcode => respondSConfigSMemberIDcode p frame
  | .rbpFlags => respondRBPflags frame
  | .relModLevel => respondRelModLevel frame
  | .chPressure => respondCHPressure frame
  | .dhwFlowRate => respondDHWFlowRate frame
  | .tboiler => respondTboiler frame
  | .tdhw => respondTdhw frame
  | .toutside => respondToutside frame
  | .tret => respondTret frame
  | .tstorage => respondTstorage frame
  | .tcollector => respondTcollector frame
  | .tflowCH2 => respondTflowCH2 frame
  | .tdhw2 => respondTdhw2 frame
  | .texhaust => respondTexhaust frame
  | .tdhwSetUBTdhwSetLB => respondTdhwSetUBTdhwSetLB frame
  | .maxTSetUBMaxTSetLB => respondMaxTSetUBMaxTSetLB frame
  | .maxTSet => respondMaxTSet frame
  | .burnerStarts => respondBurnerStarts frame
  | .chPumpStarts => respondCHPumpStarts frame
  | .dhwPumpValveStarts => respondDHWPumpValveStarts frame
  | .dhwBurnerStarts => respondDHWBurnerStarts frame
  | .burnerOperationHours => respondBurnerOperationHours frame
  | .chPumpOperationHours => respondCHPumpOperationHours frame
  | .dhwPumpValveOperationHours => respondDHWPumpValveOperationHours frame
  | .dhwBurnerOperationHours => respondDHWBurnerOperationHours frame

/-- The events of a VALID frame: the rule is selected by bits 23 to 16 alone (42_response_dispatcher.md R183, R184). -/
def respond (p : Config.Params) (frame : Frame) : List Event :=
  match responseName p (frameId frame) with
  | some n => respondNamed p n frame
  | none => respondUnexpected frame

/-- `dispatch(frame, status)`: a status other than VALID is reported and the frame dropped, before any bit of it is
examined (42_response_dispatcher.md R180, 60_exceptions.md R281, R288). -/
def dispatch (p : Config.Params) (d : Delivery) : List Event :=
  if d.status = .valid then respond p d.frame else [raise (.invalidResponse d.status d.frame)]

/-- Meaning of RSP.Status (42_response_dispatcher.md R185). -/
def execRspStatus (frame : Frame) (s : State) : Out := .next (s.emit (respondStatus frame))

/-- Meaning of RSP.TSet (42_response_dispatcher.md R186). -/
def execRspTSet (frame : Frame) (s : State) : Out := .next (s.emit (respondTSet s.params frame))

/-- Meaning of RSP.TsetCH2 (42_response_dispatcher.md R187). -/
def execRspTsetCH2 (frame : Frame) (s : State) : Out := .next (s.emit (respondTsetCH2 s.params frame))

/-- Meaning of RSP.SConfigSMemberIDcode (42_response_dispatcher.md R188). -/
def execRspSConfigSMemberIDcode (frame : Frame) (s : State) : Out := .next (s.emit (respondSConfigSMemberIDcode s.params frame))

/-- Meaning of RSP.RBPflags (42_response_dispatcher.md R189). -/
def execRspRBPflags (frame : Frame) (s : State) : Out := .next (s.emit (respondRBPflags frame))

/-- Meaning of RSP.RelModLevel (42_response_dispatcher.md R190). -/
def execRspRelModLevel (frame : Frame) (s : State) : Out := .next (s.emit (respondRelModLevel frame))

/-- Meaning of RSP.CHPressure (42_response_dispatcher.md R191). -/
def execRspCHPressure (frame : Frame) (s : State) : Out := .next (s.emit (respondCHPressure frame))

/-- Meaning of RSP.DHWFlowRate (42_response_dispatcher.md R192). -/
def execRspDHWFlowRate (frame : Frame) (s : State) : Out := .next (s.emit (respondDHWFlowRate frame))

/-- Meaning of RSP.Tboiler (42_response_dispatcher.md R193). -/
def execRspTboiler (frame : Frame) (s : State) : Out := .next (s.emit (respondTboiler frame))

/-- Meaning of RSP.Tdhw (42_response_dispatcher.md R194). -/
def execRspTdhw (frame : Frame) (s : State) : Out := .next (s.emit (respondTdhw frame))

/-- Meaning of RSP.Toutside (42_response_dispatcher.md R195). -/
def execRspToutside (frame : Frame) (s : State) : Out := .next (s.emit (respondToutside frame))

/-- Meaning of RSP.Tret (42_response_dispatcher.md R196). -/
def execRspTret (frame : Frame) (s : State) : Out := .next (s.emit (respondTret frame))

/-- Meaning of RSP.Tstorage (42_response_dispatcher.md R197). -/
def execRspTstorage (frame : Frame) (s : State) : Out := .next (s.emit (respondTstorage frame))

/-- Meaning of RSP.Tcollector (42_response_dispatcher.md R198). -/
def execRspTcollector (frame : Frame) (s : State) : Out := .next (s.emit (respondTcollector frame))

/-- Meaning of RSP.TflowCH2 (42_response_dispatcher.md R199). -/
def execRspTflowCH2 (frame : Frame) (s : State) : Out := .next (s.emit (respondTflowCH2 frame))

/-- Meaning of RSP.Tdhw2 (42_response_dispatcher.md R200). -/
def execRspTdhw2 (frame : Frame) (s : State) : Out := .next (s.emit (respondTdhw2 frame))

/-- Meaning of RSP.Texhaust (42_response_dispatcher.md R201). -/
def execRspTexhaust (frame : Frame) (s : State) : Out := .next (s.emit (respondTexhaust frame))

/-- Meaning of RSP.TdhwSetUBTdhwSetLB (42_response_dispatcher.md R202). -/
def execRspTdhwSetUBTdhwSetLB (frame : Frame) (s : State) : Out := .next (s.emit (respondTdhwSetUBTdhwSetLB frame))

/-- Meaning of RSP.MaxTSetUBMaxTSetLB (42_response_dispatcher.md R203). -/
def execRspMaxTSetUBMaxTSetLB (frame : Frame) (s : State) : Out := .next (s.emit (respondMaxTSetUBMaxTSetLB frame))

/-- Meaning of RSP.MaxTSet (42_response_dispatcher.md R204). -/
def execRspMaxTSet (frame : Frame) (s : State) : Out := .next (s.emit (respondMaxTSet frame))

/-- Meaning of RSP.BurnerStarts (42_response_dispatcher.md R205). -/
def execRspBurnerStarts (frame : Frame) (s : State) : Out := .next (s.emit (respondBurnerStarts frame))

/-- Meaning of RSP.CHPumpStarts (42_response_dispatcher.md R206). -/
def execRspCHPumpStarts (frame : Frame) (s : State) : Out := .next (s.emit (respondCHPumpStarts frame))

/-- Meaning of RSP.DHWPumpValveStarts (42_response_dispatcher.md R207). -/
def execRspDHWPumpValveStarts (frame : Frame) (s : State) : Out := .next (s.emit (respondDHWPumpValveStarts frame))

/-- Meaning of RSP.DHWBurnerStarts (42_response_dispatcher.md R208). -/
def execRspDHWBurnerStarts (frame : Frame) (s : State) : Out := .next (s.emit (respondDHWBurnerStarts frame))

/-- Meaning of RSP.BurnerOperationHours (42_response_dispatcher.md R209). -/
def execRspBurnerOperationHours (frame : Frame) (s : State) : Out := .next (s.emit (respondBurnerOperationHours frame))

/-- Meaning of RSP.CHPumpOperationHours (42_response_dispatcher.md R210). -/
def execRspCHPumpOperationHours (frame : Frame) (s : State) : Out := .next (s.emit (respondCHPumpOperationHours frame))

/-- Meaning of RSP.DHWPumpValveOperationHours (42_response_dispatcher.md R211). -/
def execRspDHWPumpValveOperationHours (frame : Frame) (s : State) : Out := .next (s.emit (respondDHWPumpValveOperationHours frame))

/-- Meaning of RSP.DHWBurnerOperationHours (42_response_dispatcher.md R212). -/
def execRspDHWBurnerOperationHours (frame : Frame) (s : State) : Out := .next (s.emit (respondDHWBurnerOperationHours frame))

/-- Meaning of RSP.<unexpected> (42_response_dispatcher.md R184). -/
def execRspUnexpected (frame : Frame) (s : State) : Out := .next (s.emit (respondUnexpected frame))

end Sys2Proof.Machine
end

