-- ==== Sys2Proof/Machine/Scheduler.lean ====
section
/-! DEFINITION. The Request Scheduler and the Session Controller (43_scheduler.md): the send phase, the receive phase,
and the meanings of the lifecycle operations. -/

namespace Sys2Proof.Machine

/-- Steps 1 and 2 of the send phase: the phase change at the end of `CFG_INIT`, else the wrap at the end of `REP`
(43_scheduler.md R246, R247). -/
def rewind (s : State) : State :=
  if s.initializing = true ∧ s.cursor = s.cfgInit.length then s.enterRepeating
  else if s.initializing = false ∧ s.cursor = s.rep.length then s.wrapCursor
  else s

/-- The event of step 3: `TX` of a built frame, or the unknown-request error and no `TX` (43_scheduler.md R248,
60_exceptions.md R283, 70_reset_and_hazards.md R315). -/
def issueEvent (r : BuildResult) : Event :=
  match r with
  | .ok frame => .tx frame
  | .fail id => raise (.unknownRequest id)

/-- Step 3 of the send phase: read the entry at the cursor, build, emit one event, and advance the cursor also when
the build fails (43_scheduler.md R248). A cursor beyond the list is ruled out by 10_state.md R27 (log entry 11). -/
def issue (s : State) : Out :=
  match s.activeList[s.cursor]? with
  | some id => .next ((s.emit [issueEvent (build s.params s.ports id)]).advance)
  | none => .fault .cursorOutOfRange

/-- `SendPhase`: nothing unless the transceiver is ready; else steps 1, 2 and 3 (43_scheduler.md R245). -/
def sendPhase (s : State) : Out := if s.ports.ready then issue (rewind s) else .next s

/-- `ReceivePhase`: `process()` on every tick, then the dispatch of a delivery if one came (43_scheduler.md R249). -/
def receivePhase (s : State) : State :=
  match s.ports.rsp with
  | none => s.emit [.process]
  | some d => (s.emit (.process :: dispatch s.params d)).deliveryTaken

/-- `TICK` of a RUNNING block: the two phases in the order of `P_TICK_ORDER` (43_scheduler.md R242). -/
def tick (s : State) : Out :=
  match s.params.tickOrder with
  | .sendThenProcess => thenState (sendPhase s) receivePhase
  | .processThenSend => sendPhase (receivePhase s)

/-- A response rule where it runs: in the receive phase of a tick that reads not ready, after `PROCESS`, the delivery
taken from the port, and as `LC` admits a TICK (43_scheduler.md R240, R249, R253). A frame reaches the block in no other
way (60_exceptions.md R289, R296, log entry 18). `run` is the rule. -/
def withinReceivePhase (run : State → Out) (s : State) : Out :=
  match s.lc with
  | .constructed => .refused .tickBeforeStart
  | .running => run (s.emit [.process]).deliveryTaken
  | .stopped => .next s

/-- Meaning of OP.START: from CONSTRUCTED only (43_scheduler.md R240, R241). -/
def execOpStart (s : State) : Out :=
  match s.lc with
  | .constructed => .next s.started
  | .running => .refused .startRepeated
  | .stopped => .refused .startRepeated

/-- Meaning of OP.TICK: refused before START, no effect after STOP (43_scheduler.md R240, R242, R253). -/
def execOpTick (s : State) : Out :=
  match s.lc with
  | .constructed => .refused .tickBeforeStart
  | .running => tick s
  | .stopped => .next s

/-- Meaning of OP.STOP: STOPPED from CONSTRUCTED and RUNNING, no effect after STOP (43_scheduler.md R240, R243,
R253). -/
def execOpStop (s : State) : Out :=
  match s.lc with
  | .constructed => .next s.halted
  | .running => .next s.halted
  | .stopped => .next s

end Sys2Proof.Machine
end

