-- ==== Sys2Proof/Machine/Dispatch.lean ====
section
/-! DEFINITION. The dispatch of an instruction to its meaning, one arm per row of spec/opcode_table.json. -/

namespace Sys2Proof.Machine

def exec (i : Instr) (s : State) : Host.Outcome State Fault Refusal :=
  match i with
  -- Request Builder
  | .reqStatus => Sys2Proof.Machine.execReqStatus s
  | .reqTSet => Sys2Proof.Machine.execReqTSet s
  | .reqTsetCH2 => Sys2Proof.Machine.execReqTsetCH2 s
  | .reqSConfigSMemberIDcode => Sys2Proof.Machine.execReqSConfigSMemberIDcode s
  | .reqRBPflags => Sys2Proof.Machine.execReqRBPflags s
  | .reqRelModLevel => Sys2Proof.Machine.execReqRelModLevel s
  | .reqCHPressure => Sys2Proof.Machine.execReqCHPressure s
  | .reqDHWFlowRate => Sys2Proof.Machine.execReqDHWFlowRate s
  | .reqTboiler => Sys2Proof.Machine.execReqTboiler s
  | .reqTdhw => Sys2Proof.Machine.execReqTdhw s
  | .reqToutside => Sys2Proof.Machine.execReqToutside s
  | .reqTret => Sys2Proof.Machine.execReqTret s
  | .reqTstorage => Sys2Proof.Machine.execReqTstorage s
  | .reqTcollector => Sys2Proof.Machine.execReqTcollector s
  | .reqTflowCH2 => Sys2Proof.Machine.execReqTflowCH2 s
  | .reqTdhw2 => Sys2Proof.Machine.execReqTdhw2 s
  | .reqTexhaust => Sys2Proof.Machine.execReqTexhaust s
  | .reqTdhwSetUBTdhwSetLB => Sys2Proof.Machine.execReqTdhwSetUBTdhwSetLB s
  | .reqMaxTSetUBMaxTSetLB => Sys2Proof.Machine.execReqMaxTSetUBMaxTSetLB s
  | .reqMaxTSet => Sys2Proof.Machine.execReqMaxTSet s
  | .reqBurnerStarts => Sys2Proof.Machine.execReqBurnerStarts s
  | .reqCHPumpStarts => Sys2Proof.Machine.execReqCHPumpStarts s
  | .reqDHWPumpValveStarts => Sys2Proof.Machine.execReqDHWPumpValveStarts s
  | .reqDHWBurnerStarts => Sys2Proof.Machine.execReqDHWBurnerStarts s
  | .reqBurnerOperationHours => Sys2Proof.Machine.execReqBurnerOperationHours s
  | .reqCHPumpOperationHours => Sys2Proof.Machine.execReqCHPumpOperationHours s
  | .reqDHWPumpValveOperationHours => Sys2Proof.Machine.execReqDHWPumpValveOperationHours s
  | .reqDHWBurnerOperationHours => Sys2Proof.Machine.execReqDHWBurnerOperationHours s
  | .reqUnknown id => Sys2Proof.Machine.execReqUnknown id s
  -- Response Dispatcher
  | .rspStatus frame => Sys2Proof.Machine.execRspStatus frame s
  | .rspTSet frame => Sys2Proof.Machine.execRspTSet frame s
  | .rspTsetCH2 frame => Sys2Proof.Machine.execRspTsetCH2 frame s
  | .rspSConfigSMemberIDcode frame => Sys2Proof.Machine.execRspSConfigSMemberIDcode frame s
  | .rspRBPflags frame => Sys2Proof.Machine.execRspRBPflags frame s
  | .rspRelModLevel frame => Sys2Proof.Machine.execRspRelModLevel frame s
  | .rspCHPressure frame => Sys2Proof.Machine.execRspCHPressure frame s
  | .rspDHWFlowRate frame => Sys2Proof.Machine.execRspDHWFlowRate frame s
  | .rspTboiler frame => Sys2Proof.Machine.execRspTboiler frame s
  | .rspTdhw frame => Sys2Proof.Machine.execRspTdhw frame s
  | .rspToutside frame => Sys2Proof.Machine.execRspToutside frame s
  | .rspTret frame => Sys2Proof.Machine.execRspTret frame s
  | .rspTstorage frame => Sys2Proof.Machine.execRspTstorage frame s
  | .rspTcollector frame => Sys2Proof.Machine.execRspTcollector frame s
  | .rspTflowCH2 frame => Sys2Proof.Machine.execRspTflowCH2 frame s
  | .rspTdhw2 frame => Sys2Proof.Machine.execRspTdhw2 frame s
  | .rspTexhaust frame => Sys2Proof.Machine.execRspTexhaust frame s
  | .rspTdhwSetUBTdhwSetLB frame => Sys2Proof.Machine.execRspTdhwSetUBTdhwSetLB frame s
  | .rspMaxTSetUBMaxTSetLB frame => Sys2Proof.Machine.execRspMaxTSetUBMaxTSetLB frame s
  | .rspMaxTSet frame => Sys2Proof.Machine.execRspMaxTSet frame s
  | .rspBurnerStarts frame => Sys2Proof.Machine.execRspBurnerStarts frame s
  | .rspCHPumpStarts frame => Sys2Proof.Machine.execRspCHPumpStarts frame s
  | .rspDHWPumpValveStarts frame => Sys2Proof.Machine.execRspDHWPumpValveStarts frame s
  | .rspDHWBurnerStarts frame => Sys2Proof.Machine.execRspDHWBurnerStarts frame s
  | .rspBurnerOperationHours frame => Sys2Proof.Machine.execRspBurnerOperationHours frame s
  | .rspCHPumpOperationHours frame => Sys2Proof.Machine.execRspCHPumpOperationHours frame s
  | .rspDHWPumpValveOperationHours frame => Sys2Proof.Machine.execRspDHWPumpValveOperationHours frame s
  | .rspDHWBurnerOperationHours frame => Sys2Proof.Machine.execRspDHWBurnerOperationHours frame s
  | .rspUnexpected frame => Sys2Proof.Machine.execRspUnexpected frame s
  -- Frame Codec
  | .codecDecodeSigned16 frame => Sys2Proof.Machine.execCodecDecodeSigned16 frame s
  | .codecDecodeFixedPoint frame => Sys2Proof.Machine.execCodecDecodeFixedPoint frame s
  | .codecDecodeHighByteSigned frame => Sys2Proof.Machine.execCodecDecodeHighByteSigned frame s
  | .codecDecodeLowByteSigned frame => Sys2Proof.Machine.execCodecDecodeLowByteSigned frame s
  | .codecDecodeUint16 frame => Sys2Proof.Machine.execCodecDecodeUint16 frame s
  | .codecDecodeFlag frame index => Sys2Proof.Machine.execCodecDecodeFlag frame index s
  | .codecEncodeFixedPoint v => Sys2Proof.Machine.execCodecEncodeFixedPoint v s
  -- Lifecycle operations
  | .opStart => Sys2Proof.Machine.execOpStart s
  | .opTick => Sys2Proof.Machine.execOpTick s
  | .opStop => Sys2Proof.Machine.execOpStop s

end Sys2Proof.Machine
end

