-- ==== Sys2Proof/Machine/Step.lean ====
section
/-! DEFINITION. One step of the machine: the oldest presented operation is taken, decoded and run. -/

namespace Sys2Proof.Machine

/-- One step: operations are taken one at a time, in the order the environment presents them (00_scope.md R12,
20_memory.md R56). A response rule runs inside the receive phase of a tick, whichever way its frame is presented
(60_exceptions.md R289, log entry 18). With none presented the block idles (log entry 4). -/
def step (s : State) : Host.Outcome State Fault Refusal :=
  match s.take with
  | none => .next s
  | some (c, s') =>
    match decode s'.params c with
    | .ok i => if c.port = .response then withinReceivePhase (exec i) s' else exec i s'
    | .error why => .refused (.undecodable why)

/-- s with the opcode-table word presented as the very next operation, at the port values that stand (log entries
1, 13 and 17). A response word runs in a tick only, so for one the block is also made ready to take ticks. -/
def State.withFetchWord (s : State) (nbits w : Nat) : State :=
  let c := tableCommand s.params nbits w
  if c.port = .response then s.operating.presentNext c else s.presentNext c

end Sys2Proof.Machine
end

