-- ==== Sys2Proof/Machine/Schedule.lean ====
section
/-! DEFINITION. The schedule text of 30_encoding.md R88, in which the spec writes the block's program: the two lists of
identifiers, and the construction of a block from it (70_reset_and_hazards.md R311). -/

namespace Sys2Proof.Machine

/-- The spec's spelling of an identifier name (30_encoding.md R76). -/
def nameText (n : MsgName) : String :=
  match n with
  | .status => "Status"
  | .tSet => "TSet"
  | .tsetCH2 => "TsetCH2"
  | .sConfigSMemberIDcode => "SConfigSMemberIDcode"
  | .rbpFlags => "RBPflags"
  | .relModLevel => "RelModLevel"
  | .chPressure => "CHPressure"
  | .dhwFlowRate => "DHWFlowRate"
  | .tboiler => "Tboiler"
  | .tdhw => "Tdhw"
  | .toutside => "Toutside"
  | .tret => "Tret"
  | .tstorage => "Tstorage"
  | .tcollector => "Tcollector"
  | .tflowCH2 => "TflowCH2"
  | .tdhw2 => "Tdhw2"
  | .texhaust => "Texhaust"
  | .tdhwSetUBTdhwSetLB => "TdhwSetUBTdhwSetLB"
  | .maxTSetUBMaxTSetLB => "MaxTSetUBMaxTSetLB"
  | .maxTSet => "MaxTSet"
  | .burnerStarts => "BurnerStarts"
  | .chPumpStarts => "CHPumpStarts"
  | .dhwPumpValveStarts => "DHWPumpValveStarts"
  | .dhwBurnerStarts => "DHWBurnerStarts"
  | .burnerOperationHours => "BurnerOperationHours"
  | .chPumpOperationHours => "CHPumpOperationHours"
  | .dhwPumpValveOperationHours => "DHWPumpValveOperationHours"
  | .dhwBurnerOperationHours => "DHWBurnerOperationHours"

/-- The value of a digit in a base, if it is one. -/
def digitValue (base : Nat) (c : Char) : Option Nat :=
  let n := c.toNat
  let v := if 48 ≤ n ∧ n ≤ 57 then some (n - 48)
    else if 65 ≤ n ∧ n ≤ 70 then some (n - 55)
    else if 97 ≤ n ∧ n ≤ 102 then some (n - 87)
    else none
  v.filter fun d => decide (d < base)

/-- The number a nonempty run of digits spells. -/
def numberValue (base : Nat) (text : List Char) : Option Nat :=
  if text = [] then none
  else text.foldl (fun acc c => acc.bind fun n => (digitValue base c).map fun d => n * base + d) (some 0)

/-- The text without the spaces at its two ends. -/
def trimSpaces (text : List Char) : List Char :=
  ((text.dropWhile fun c => c == ' ').reverse.dropWhile fun c => c == ' ').reverse

/-- The pieces between the commas of a text; a text without a comma is one piece. -/
def commaPieces : List Char → List (List Char)
  | [] => [[]]
  | c :: rest =>
    if c = ',' then [] :: commaPieces rest
    else match commaPieces rest with
      | [] => [[c]]
      | piece :: more => (c :: piece) :: more

/-- `<id>`: a name of the table, a decimal 0 to 255, or 0x and two hexadecimal digits (30_encoding.md R88). -/
def parseEntry (p : Config.Params) (text : List Char) : Option MsgId :=
  match MsgName.all.find? fun n => (nameText n).toList == text with
  | some n => some (p.idMap.idOf n)
  | none =>
    match text with
    | ['0', 'x', hi, lo] => (numberValue 16 [hi, lo]).map (BitVec.ofNat 8)
    | _ => ((numberValue 10 text).filter fun n => decide (n ≤ 255)).map (BitVec.ofNat 8)

/-- The entries after a header, in issue order; nothing after it is the empty list (30_encoding.md R88). -/
def parseEntries (p : Config.Params) (text : List Char) : Option (List MsgId) :=
  if trimSpaces text = [] then some []
  else (commaPieces text).mapM fun piece => parseEntry p (trimSpaces piece)

/-- The text after a header at the start of a line. -/
def afterHeader (header line : List Char) : Option (List Char) :=
  if line.take header.length = header then some (line.drop header.length) else none

/-- The block constructed from a program's two lines, `initial: …` and `repeating: …` (30_encoding.md R88,
70_reset_and_hazards.md R311); a list longer than `P_LIST_MAX` is no configuration (10_state.md R21, R22). -/
def constructFromText (p : Config.Params) (initialLine repeatingLine : String) : Option State := do
  let init ← (afterHeader "initial:".toList initialLine.toList).bind (parseEntries p)
  let rep ← (afterHeader "repeating:".toList repeatingLine.toList).bind (parseEntries p)
  if init.length ≤ p.listMax ∧ rep.length ≤ p.listMax then some (State.construct p init rep) else none

end Sys2Proof.Machine
end

