-- ==== Sys2Proof/Safety.lean ====
section
/-! DEFINITION. What counts as a safe run, in the terms the claims use: the scheduler's invariant, the shape of the
event history, and the duties of the environment (60_exceptions.md R296), which are premises and no part of a step. -/

namespace Sys2Proof.Machine

/-- The scheduler's invariant (10_state.md R21, R22, R24, R27): the lists fit `P_LIST_MAX`, the cursor lies in the
active list or at its end, and in RUNNING the repeating list is the effective one, which is never empty. -/
structure State.Inv (s : State) : Prop where
  listMax_pos : 1 ≤ s.params.listMax
  cfgInit_fits : s.cfgInit.length ≤ s.params.listMax
  cfgRep_fits : s.cfgRep.length ≤ s.params.listMax
  rep_fits : s.rep.length ≤ s.params.listMax
  cursor_le : s.cursor ≤ s.activeList.length
  rep_effective : s.lc = .running → s.rep = s.effectiveRep

/-- The event hands a request frame to the transceiver. -/
def Event.isTx (e : Event) : Bool :=
  match e with
  | .tx _ => true
  | _ => false

/-- The event is the issue of one schedule entry: exactly one of these a ready tick (43_scheduler.md R250). -/
def Event.isIssue (e : Event) : Bool :=
  match e with
  | .tx _ => true
  | .diag (.unknownRequest _) => true
  | _ => false

/-- The event invokes the telemetry sink. -/
def Event.isPublish (e : Event) : Bool :=
  match e with
  | .pubS _ _ => true
  | .pubB _ _ => true
  | _ => false

/-- The event is emitted by the dispatch of a delivery (42_response_dispatcher.md R180 to R212). -/
def Event.isDispatch (e : Event) : Bool :=
  match e with
  | .pubS _ _ => true
  | .pubB _ _ => true
  | .diag (.invalidResponse _ _) => true
  | .diag (.unexpectedResponse _) => true
  | .diag (.logEcho _ _) => true
  | _ => false

/-- A request is in flight: a frame was sent and no delivery, of any status or identifier, has been dispatched since.
DESIGN CHOICE, unsafe (log entry 26): the spec names the time a request is in flight (60_exceptions.md R296,
70_reset_and_hazards.md R314) and not what ends it. No step reads this. -/
def inFlight (history : List Event) : Bool :=
  history.foldl (fun b e => if e.isTx then true else if e.isDispatch then false else b) false

/-- The transceiver's duty at a send phase: it reports not ready while a request is in flight (60_exceptions.md R296,
70_reset_and_hazards.md R314), by the model's notion of a flight (log entry 26). -/
def State.transceiverDuty (s : State) : Prop := inFlight s.events = true → s.ports.ready = false

/-- Runs TICK once for each set of port values, in order, as long as each answers a next state. -/
def ticks (s : State) : List Ports → Option State
  | [] => some s
  | ports :: rest =>
    match exec .opTick { s with ports := ports } with
    | .next t => ticks t rest
    | .fault _ => none
    | .refused _ => none

/-- `entry(k)` for k at least 1: the identifier the k-th ready tick reads (43_scheduler.md R251). -/
def scheduleEntry (init rep : List MsgId) (k : Nat) : Option MsgId :=
  if k ≤ init.length then init[k - 1]? else rep[(k - 1 - init.length) % rep.length]?

/-- No frame is sent while a request is in flight: every `TX` of the history stands where none is (60_exceptions.md
R296, "at most one outstanding request at any time"), by the model's notion of a flight (log entry 26). -/
def singleOutstanding (history : List Event) : Prop :=
  ∀ before frame after, history = before ++ .tx frame :: after → inFlight before = false

/-- The phase and the cursor at which the next ready tick reads: at the end of `CFG_INIT` the start of REPEATING, at
the end of `REP` its start again, else where the cursor stands (43_scheduler.md R246, R247). -/
def State.nextPosition (s : State) : Bool × Nat :=
  if s.initializing then (if s.cursor = s.cfgInit.length then (false, 0) else (true, s.cursor))
  else (false, if s.cursor = s.rep.length then 0 else s.cursor)

/-- The entry the next ready tick reads (43_scheduler.md R248). -/
def State.nextEntry (s : State) : Option MsgId :=
  (if s.nextPosition.1 then s.cfgInit else s.rep)[s.nextPosition.2]?

/-- The same block with another `P_TICK_ORDER`. -/
def State.withTickOrder (s : State) (o : Config.TickOrder) : State :=
  { s with params := { s.params with tickOrder := o } }

/-- The integer whose two's-complement representation in `bits` bits is n (00_scope.md R9). -/
def signedOf (bits n : Nat) : Int := if n < 2 ^ (bits - 1) then (n : Int) else (n : Int) - 2 ^ bits

/-- Bit i of a frame is one. -/
def bitSet (frame : Frame) (i : Nat) : Bool := frame.toNat / 2 ^ i % 2 == 1

/-- The number of one bits of a frame. -/
def onesIn (frame : Frame) : Nat := ((List.range 32).filter (bitSet frame)).length

/-- A frame has the request layout with the given type, identifier and payload: bits 27 to 24 are zero, bits 30 to 28
are 000 for READ_DATA and 001 for WRITE_DATA, and bit 31 makes the number of one bits even (EVEN) or is zero (ZERO)
(30_encoding.md R70 to R75, 41_request_builder.md R130, R131). -/
structure RequestShape (p : Config.Params) (t : Config.MsgType) (id : MsgId) (data : Payload) (frame : Frame) :
    Prop where
  payload : frame.toNat % 2 ^ 16 = data.toNat
  identifier : frame.toNat / 2 ^ 16 % 2 ^ 8 = id.toNat
  spare : frame.toNat / 2 ^ 24 % 2 ^ 4 = 0
  type : frame.toNat / 2 ^ 28 % 2 ^ 3 = (match t with
    | .readData => 0
    | .writeData => 1)
  parity : match p.parity with
    | .even => onesIn frame % 2 = 0
    | .zero => bitSet frame 31 = false

/-- n is q truncated toward zero (00_scope.md R9). -/
def TruncatesTo (q : Rat) (n : Int) : Prop :=
  (0 ≤ q → (n : Rat) ≤ q ∧ q < n + 1) ∧ (q ≤ 0 → q ≤ n ∧ (n : Rat) - 1 < q)

/-- The REQ row an identifier selects (41_request_builder.md R132). -/
def requestInstr (p : Config.Params) (id : MsgId) : Instr :=
  match requestName p id with
  | some n => Instr.reqOf n
  | none => .reqUnknown id

/-- The event a ready tick emits for what the builder returned: `TX` of the frame, or the unknown-request error
(43_scheduler.md R248). -/
def issuedFor (r : Returned) : Option Event :=
  match r with
  | .built frame => some (.tx frame)
  | .unknownRequest id => some (.diag (.unknownRequest id))
  | _ => none

end Sys2Proof.Machine
end

