-- ==== Sys2Proof/Certificates/Slice0/Obligations.lean ====
section
/-! DEFINITION. The statements about the model. Each docstring names the rule of spec/ it formalises; where the rule
carries the spec's own mark ([decision] or [derived]) or a log entry is involved, the docstring says so. -/

open Sys2Proof Sys2Proof.Machine

/-! ### The Frame Codec -/

/-- 40_codec.md R101: decode_signed16 returns the low 16 bits as a signed integer, unscaled, and changes nothing else. -/
def Obligations.DecodeSigned16ReturnsSignedPayload : Prop :=
  ∀ (frame : Frame) (s : State), exec (.codecDecodeSigned16 frame) s =
    .next { s with returned := .int (signedOf 16 (frame.toNat % 2 ^ 16)) }

/-- 40_codec.md R102: decode_fixed_point returns the signed low 16 bits divided by 256, exactly. -/
def Obligations.DecodeFixedPointReturnsPayloadOver256 : Prop :=
  ∀ (frame : Frame) (s : State), exec (.codecDecodeFixedPoint frame) s =
    .next { s with returned := .rational ((signedOf 16 (frame.toNat % 2 ^ 16) : Rat) / 256) }

/-- 40_codec.md R103, R104: the signed-byte decodes return bits 15 to 8 and bits 7 to 0 as signed bytes. -/
def Obligations.SignedByteDecodesReturnTheirByte : Prop :=
  ∀ (frame : Frame) (s : State),
    exec (.codecDecodeHighByteSigned frame) s =
      .next { s with returned := .int (signedOf 8 (frame.toNat / 2 ^ 8 % 2 ^ 8)) } ∧
    exec (.codecDecodeLowByteSigned frame) s = .next { s with returned := .int (signedOf 8 (frame.toNat % 2 ^ 8)) }

/-- 40_codec.md R105: decode_uint16 returns the low 16 bits unsigned. -/
def Obligations.DecodeUint16ReturnsUnsignedPayload : Prop :=
  ∀ (frame : Frame) (s : State), exec (.codecDecodeUint16 frame) s =
    .next { s with returned := .int ((frame.toNat % 2 ^ 16 : Nat) : Int) }

/-- 40_codec.md R106: decode_flag tests any of the 32 bits. That an index of 32 or more is refused by name is the model's
(log entry 12); the rule only allows it ("a model may refuse any other index"). -/
def Obligations.DecodeFlagTestsAnyFrameBit : Prop :=
  ∀ (frame : Frame) (i : Nat) (s : State),
    (i < 32 → exec (.codecDecodeFlag frame i) s = .next { s with returned := .bool (bitSet frame i) }) ∧
    (32 ≤ i → exec (.codecDecodeFlag frame i) s = .refused .flagIndexOutOfRange)

/-- 40_codec.md R111, marked [derived] by the spec: each signed-byte decode depends on its own byte alone. -/
def Obligations.SignedByteDecodesDependOnTheirByteOnly : Prop :=
  ∀ (f g : Frame) (s : State),
    ((∀ i, 8 ≤ i → i < 16 → bitSet f i = bitSet g i) →
      exec (.codecDecodeHighByteSigned f) s = exec (.codecDecodeHighByteSigned g) s) ∧
    ((∀ i, i < 8 → bitSet f i = bitSet g i) →
      exec (.codecDecodeLowByteSigned f) s = exec (.codecDecodeLowByteSigned g) s)

/-- 40_codec.md R107 under `P_ENC_MODE = WRAP` (the spec's decision D7): inside the domain the result is the low 16
bits of v times 256 truncated toward zero. -/
def Obligations.EncodeWrapTruncatesTowardZeroAndWraps : Prop :=
  ∀ (v : Binary32) (q : Rat) (s : State), s.params.encMode = .wrap → binary32Number v = .finite q →
    -2147483648 < q * 256 → q * 256 < 2147483648 →
    ∃ n : Int, TruncatesTo (q * 256) n ∧
      exec (.codecEncodeFixedPoint v) s = .next { s with returned := .payload (BitVec.ofInt 16 n) }

/-- 40_codec.md R107 and R108 under `P_ENC_MODE = CLAMP_0_100` (the spec's decision D7): a number is first limited to
0 to 100, an infinity becomes the nearer bound, and NaN gives the draw `P_ENC_OOR` (log entry 7). -/
def Obligations.EncodeClampLimitsTo0To100 : Prop :=
  ∀ (v : Binary32) (s : State), s.params.encMode = .clamp0to100 →
    (∀ q : Rat, binary32Number v = .finite q →
      ∃ n : Int, TruncatesTo (max 0 (min q 100) * 256) n ∧
        exec (.codecEncodeFixedPoint v) s = .next { s with returned := .payload (BitVec.ofInt 16 n) }) ∧
    (binary32Number v = .infinity true →
      exec (.codecEncodeFixedPoint v) s = .next { s with returned := .payload 0x0000 }) ∧
    (binary32Number v = .infinity false →
      exec (.codecEncodeFixedPoint v) s = .next { s with returned := .payload 0x6400 }) ∧
    (binary32Number v = .nan →
      exec (.codecEncodeFixedPoint v) s = .next { s with returned := .payload (Config.encOutOfRange .nan) })

/-- 40_codec.md R109 (the spec's decision D8): outside the domain encode_fixed_point still completes, with the draw
`P_ENC_OOR` of the value, of which nothing is known (log entry 7). R114 ([derived]): the result depends on the number v
stands for alone, so the payload of a NaN changes nothing, under either range mode. -/
def Obligations.EncodeOutOfDomainReturnsTheDraw : Prop :=
  (∀ (v : Binary32) (s : State), s.params.encMode = .wrap →
    (binary32Number v = .nan ∨ (∃ b, binary32Number v = .infinity b) ∨
      (∃ q : Rat, binary32Number v = .finite q ∧ (q * 256 ≤ -2147483648 ∨ 2147483648 ≤ q * 256))) →
    exec (.codecEncodeFixedPoint v) s =
      .next { s with returned := .payload (Config.encOutOfRange (binary32Number v)) }) ∧
  (∀ (v v' : Binary32) (s : State), binary32Number v = binary32Number v' →
    exec (.codecEncodeFixedPoint v) s = exec (.codecEncodeFixedPoint v') s)

/-- 40_codec.md R110, the source's round-trip law as the spec derives it: encoding n/256 and decoding any frame with
that payload gives n/256 back, exactly. -/
def Obligations.FixedPointRoundTripIsExact : Prop :=
  ∀ (s : State) (n : Int) (v : Binary32), s.params.encMode = .wrap → -32768 ≤ n → n ≤ 32767 →
    binary32Number v = .finite ((n : Rat) / 256) →
    ∃ d : Payload, exec (.codecEncodeFixedPoint v) s = .next { s with returned := .payload d } ∧
      ∀ (frame : Frame) (s' : State), framePayload frame = d →
        exec (.codecDecodeFixedPoint frame) s' = .next { s' with returned := .rational ((n : Rat) / 256) }

/-- 00_scope.md R11 and 40_codec.md R113, both marked [derived]: every number the dispatcher publishes or logs is a
binary32 value exactly, for any parameters and any delivery. -/
def Obligations.EveryPublishedNumberIsABinary32 : Prop :=
  ∀ (p : Config.Params) (d : Delivery) (q : Rat),
    ((∃ k, Event.pubS k q ∈ dispatch p d) ∨ (∃ id, Event.diag (.logEcho id q) ∈ dispatch p d)) →
    ∃ v : Binary32, binary32Number v = .finite q

/-! ### The Request Builder -/

/-- 41_request_builder.md R133 with 30_encoding.md R79 (the spec's decisions D5, D6): the Status request carries the
five flags in bits 8 to 12, an absent flag as 0, every other payload bit 0, under the type `P_STATUS_TYPE`. -/
def Obligations.StatusRequestCarriesTheFiveFlags : Prop :=
  ∀ s : State, ∃ (frame : Frame) (data : Payload),
    exec .reqStatus s = .next { s with returned := .built frame } ∧
    RequestShape s.params s.params.statusType s.params.idMap.status data frame ∧
    (bitSet frame 8 = true ↔ s.ports.flags.chEnable = some true) ∧
    (bitSet frame 9 = true ↔ s.ports.flags.dhwEnable = some true) ∧
    (bitSet frame 10 = true ↔ s.ports.flags.coolingEnable = some true) ∧
    (bitSet frame 11 = true ↔ s.ports.flags.otcEnable = some true) ∧
    (bitSet frame 12 = true ↔ s.ports.flags.ch2Enable = some true) ∧
    (∀ i, i < 8 ∨ (13 ≤ i ∧ i < 16) → bitSet frame i = false)

/-- 41_request_builder.md R134, R135 and R163: a setpoint request is a WRITE_DATA frame whose payload is what
encode_fixed_point returns for the answer to the identifier's own query, or for 0.0 (payload 0) when it is absent.
The position of the type bits is the spec's decision D3, the query of TsetCH2 its decision D9. -/
def Obligations.SetpointRequestsCarryTheEncodedSetpoint : Prop :=
  ∀ (s : State) (i : Instr) (n : MsgName), (i, n) ∈ [(Instr.reqTSet, MsgName.tSet), (Instr.reqTsetCH2, MsgName.tsetCH2)] →
    ∃ (frame : Frame) (data : Payload),
      exec i s = .next { s with returned := .built frame } ∧
      RequestShape s.params .writeData (s.params.idMap.idOf n) data frame ∧
      (∀ v, s.ports.setpoints.lookup (s.params.idMap.idOf n) = some v →
        exec (.codecEncodeFixedPoint v) s = .next { s with returned := .payload data }) ∧
      (s.ports.setpoints.lookup (s.params.idMap.idOf n) = none → data = 0)

/-- 41_request_builder.md R136 to R151 and R153 to R160 (numbers by the spec's decision D2, here any map): each of the
24 read requests outside MaxTSet is a READ_DATA frame of its identifier with a zero payload, whatever the ports say. -/
def Obligations.ReadRequestsAreZeroPayloadReads : Prop :=
  ∀ (s : State) (i : Instr) (n : MsgName),
    (i, n) ∈ [(Instr.reqSConfigSMemberIDcode, MsgName.sConfigSMemberIDcode), (Instr.reqRBPflags, MsgName.rbpFlags),
      (Instr.reqRelModLevel, MsgName.relModLevel), (Instr.reqCHPressure, MsgName.chPressure),
      (Instr.reqDHWFlowRate, MsgName.dhwFlowRate), (Instr.reqTboiler, MsgName.tboiler), (Instr.reqTdhw, MsgName.tdhw),
      (Instr.reqToutside, MsgName.toutside), (Instr.reqTret, MsgName.tret), (Instr.reqTstorage, MsgName.tstorage),
      (Instr.reqTcollector, MsgName.tcollector), (Instr.reqTflowCH2, MsgName.tflowCH2),
      (Instr.reqTdhw2, MsgName.tdhw2), (Instr.reqTexhaust, MsgName.texhaust),
      (Instr.reqTdhwSetUBTdhwSetLB, MsgName.tdhwSetUBTdhwSetLB),
      (Instr.reqMaxTSetUBMaxTSetLB, MsgName.maxTSetUBMaxTSetLB), (Instr.reqBurnerStarts, MsgName.burnerStarts),
      (Instr.reqCHPumpStarts, MsgName.chPumpStarts), (Instr.reqDHWPumpValveStarts, MsgName.dhwPumpValveStarts),
      (Instr.reqDHWBurnerStarts, MsgName.dhwBurnerStarts),
      (Instr.reqBurnerOperationHours, MsgName.burnerOperationHours),
      (Instr.reqCHPumpOperationHours, MsgName.chPumpOperationHours),
      (Instr.reqDHWPumpValveOperationHours, MsgName.dhwPumpValveOperationHours),
      (Instr.reqDHWBurnerOperationHours, MsgName.dhwBurnerOperationHours)] →
    ∃ frame : Frame, exec i s = .next { s with returned := .built frame } ∧
      RequestShape s.params .readData (s.params.idMap.idOf n) 0 frame

/-- 41_request_builder.md R152 (the spec's decision D11): the MaxTSet read exists only under `P_MAXTSET_REQ`; without
it the build fails as for an unknown identifier (log entry 19). -/
def Obligations.MaxTSetRequestDependsOnItsParameter : Prop :=
  ∀ s : State,
    (s.params.maxTSetReq = true → ∃ frame : Frame, exec .reqMaxTSet s = .next { s with returned := .built frame } ∧
      RequestShape s.params .readData s.params.idMap.maxTSet 0 frame) ∧
    (s.params.maxTSetReq = false →
      exec .reqMaxTSet s = .next { s with returned := .unknownRequest s.params.idMap.maxTSet })

/-- 41_request_builder.md R132 and R161: an identifier that is no name's number in `BUILD_SET` selects REQ.<unknown>,
which fails with the identifier, carries no frame and emits nothing; a name of `BUILD_SET` selects its own row. -/
def Obligations.UnknownIdentifiersFailWithoutAFrame : Prop :=
  ∀ (s : State) (id : MsgId), s.params.wf →
    exec (.reqUnknown id) s = .next { s with returned := .unknownRequest id } ∧
    ((∀ n, s.params.idMap.idOf n = id → n = .maxTSet ∧ s.params.maxTSetReq = false) →
      requestInstr s.params id = .reqUnknown id) ∧
    (∀ n, s.params.idMap.idOf n = id → (n = .maxTSet → s.params.maxTSetReq = true) →
      requestInstr s.params id = Instr.reqOf n)

/-- 41_request_builder.md R163, R164 and R165 ([decision D10], [derived]): what a builder returns depends on the
parameters and on the inputs its rule names, and on no other state and no other input. -/
def Obligations.BuildersReadOnlyTheirOwnInputs : Prop :=
  ∀ (n : MsgName) (s s' t t' : State), s.params = s'.params →
    (n = .status → s.ports.flags = s'.ports.flags) →
    (n = .tSet → s.ports.setpoint s.params.idMap.tSet = s'.ports.setpoint s.params.idMap.tSet) →
    (n = .tsetCH2 → s.ports.setpoint s.params.idMap.tsetCH2 = s'.ports.setpoint s.params.idMap.tsetCH2) →
    exec (Instr.reqOf n) s = .next t → exec (Instr.reqOf n) s' = .next t' → t.returned = t'.returned

/-! ### Encoding -/

/-- Words written out from the opcode table (its numbers are the spec's decision D2), each presented at the port of its
row (log entry 1): each decodes to its row. Two rejections are the model's choice: a request word with a type bit its row
has not (log entry 14), and a flag index of 32 (log entry 12). -/
def Obligations.TableWordsDecodeToTheirRows : Prop :=
  decode Config.defaults ⟨.request, 0b10000000000000000001111100000000, 0⟩ = .ok .reqStatus ∧
  decode Config.defaults ⟨.request, 0b00010000000000010011110000000000, 0⟩ = .ok .reqTSet ∧
  decode Config.defaults ⟨.request, 0b10000000000110010000000000000000, 0⟩ = .ok .reqTboiler ∧
  decode Config.defaults ⟨.request, 0b00000000011110110000000000000000, 0⟩ = .ok .reqDHWBurnerOperationHours ∧
  decode Config.defaults ⟨.request, 0b00000000001110000000000000000000, 0⟩ = .ok (.reqUnknown 56) ∧
  decode Config.defaults ⟨.request, 0b00100000000110010000000000000000, 0⟩ = .error .notARequestFrame ∧
  decode Config.defaults ⟨.response, 0b11000000000110010011110010000000, 0⟩ = .ok (.rspTboiler 0xC0193C80) ∧
  decode Config.defaults ⟨.response, 0b01000000001110000000000000000000, 0⟩ = .ok (.rspUnexpected 0x40380000) ∧
  decode Config.defaults ⟨.codec .decodeFlag, 0x40000023, 5⟩ = .ok (.codecDecodeFlag 0x40000023 5) ∧
  decode Config.defaults ⟨.codec .decodeFlag, 0x40000023, 32⟩ = .error .flagIndexOutOfRange ∧
  decode Config.defaults ⟨.lifecycle .tick, 0, 0⟩ = .ok .opTick

/-- Decoding the encoding of a well-formed instruction gives it back, for every parameter set and every operand. -/
def Obligations.DecodeOfEncodeIsTheInstruction : Prop :=
  ∀ (p : Config.Params) (i : Instr), p.wf → i.wellFormed p = true → decode p (encode p i) = .ok i

/-- Whatever decodes is well formed, and its encoding stands at the same port; at the response port it is the very
same frame (30_encoding.md R86). -/
def Obligations.DecodedInstructionsAreWellFormed : Prop :=
  ∀ (p : Config.Params) (c : Command) (i : Instr), decode p c = .ok i →
    i.wellFormed p = true ∧ (encode p i).port = c.port ∧ (c.port = .response → (encode p i).word = c.word)

/-- 42_response_dispatcher.md R183, and 30_encoding.md R86: every 32-bit value is accepted as a delivered frame, and
bits 23 to 16 alone select its row: the row of the name with that number, and unexpected where no name has it. -/
def Obligations.EveryFrameRunsTheRowOfItsIdentifier : Prop :=
  ∀ (p : Config.Params) (frame : Frame),
    (∃ i : Instr, decode p (responseCommand frame) = .ok i) ∧
    (p.wf → ∀ n, (p.idMap.idOf n).toNat = frame.toNat / 2 ^ 16 % 2 ^ 8 →
      decode p (responseCommand frame) = .ok (Instr.rspOf n frame)) ∧
    ((∀ n, (p.idMap.idOf n).toNat ≠ frame.toNat / 2 ^ 16 % 2 ^ 8) →
      decode p (responseCommand frame) = .ok (.rspUnexpected frame))

/-- The frame a builder returns is an encoding of the builder's own row: it decodes to that row at the request port,
under every parameter set, for every answer of the ports (opcode table; 41_request_builder.md R133 to R160). -/
def Obligations.BuiltFramesDecodeToTheirOwnRow : Prop :=
  ∀ (s t : State) (n : MsgName) (frame : Frame), s.params.wf →
    exec (Instr.reqOf n) s = .next t → t.returned = .built frame →
    decode s.params (requestCommand frame) = .ok (Instr.reqOf n)

/-- One step (20_memory.md R56; the form of a presented operation is the model's, log entries 1, 3, 4): it runs the
decoded instruction at the presented port values, refuses what is no instruction, and idles with nothing presented. A
frame at the response port is a TICK that reads not ready and is delivered the frame, and in RUNNING that is the response
row right after `PROCESS` (60_exceptions.md R289, R296, log entry 18). A word presented by withFetchWord runs as the very
next step, a response word in a block made ready to take ticks (log entries 13, 17). -/
def Obligations.StepRunsThePresentedInstruction : Prop :=
  ∀ s : State,
    (s.pending = [] → step s = .next s) ∧
    (∀ c rest i, s.pending = c :: rest → c.command.port ≠ .response → decode s.params c.command = .ok i →
      step s = exec i { s with pending := rest, ports := c.inputs }) ∧
    (∀ c rest i, s.pending = c :: rest → c.command.port = .response → decode s.params c.command = .ok i →
      step s = exec .opTick { s with
        pending := rest, ports := { c.inputs with ready := false, rsp := some ⟨c.command.word, .valid⟩ } } ∧
      (s.lc = .running → step s = exec i { s with
        pending := rest, events := s.events ++ [.process], ports := { c.inputs with ready := false, rsp := none } })) ∧
    (∀ c rest why, s.pending = c :: rest → decode s.params c.command = .error why →
      step s = .refused (.undecodable why)) ∧
    (∀ nbits w i, decode s.params (tableCommand s.params nbits w) = .ok i →
      ((tableCommand s.params nbits w).port ≠ .response → step (s.withFetchWord nbits w) = exec i s) ∧
      ((tableCommand s.params nbits w).port = .response → step (s.withFetchWord nbits w) = exec i { s.operating with
        events := s.events ++ [.process], ports := { s.ports with ready := false, rsp := none } }))

/-! ### The Response Dispatcher -/

/-- 42_response_dispatcher.md R185 with 30_encoding.md R80 (the spec's decision D12): seven flags, frame bits 0 to 6,
published in the list's order; nothing else changes. -/
def Obligations.StatusResponsePublishesSevenFlags : Prop :=
  ∀ (frame : Frame) (s : State), exec (.rspStatus frame) s =
    .next { s with events := s.events ++
      [.pubB .fault (bitSet frame 0), .pubB .chActive (bitSet frame 1), .pubB .dhwActive (bitSet frame 2),
        .pubB .flameOn (bitSet frame 3), .pubB .coolingActive (bitSet frame 4), .pubB .ch2Active (bitSet frame 5),
        .pubB .diagnostic (bitSet frame 6)] }

/-- 42_response_dispatcher.md R186, R187 and 60_exceptions.md R285 (the spec's decision D34): a setpoint response is
logged with its identifier and f8.8 value, and published nowhere. -/
def Obligations.SetpointResponsesAreOnlyLogged : Prop :=
  ∀ (frame : Frame) (s : State),
    exec (.rspTSet frame) s = .next { s with events := s.events ++
      [.diag (.logEcho s.params.idMap.tSet ((signedOf 16 (frame.toNat % 2 ^ 16) : Rat) / 256))] } ∧
    exec (.rspTsetCH2 frame) s = .next { s with events := s.events ++
      [.diag (.logEcho s.params.idMap.tsetCH2 ((signedOf 16 (frame.toNat % 2 ^ 16) : Rat) / 256))] }

/-- 42_response_dispatcher.md R188 with 30_encoding.md R81 (the spec's decision D13): six flags, in bits 0 to 5 under
`P_CONFIG_FLAG_BYTE = LB` and 8 to 13 under HB. -/
def Obligations.ConfigResponsePublishesSixFlags : Prop :=
  ∀ (frame : Frame) (s : State) (base : Nat),
    ((s.params.configFlagByte = .lb ∧ base = 0) ∨ (s.params.configFlagByte = .hb ∧ base = 8)) →
    exec (.rspSConfigSMemberIDcode frame) s = .next { s with events := s.events ++
      [.pubB .dhwPresent (bitSet frame base), .pubB .controlType (bitSet frame (base + 1)),
        .pubB .coolingConfig (bitSet frame (base + 2)), .pubB .dhwConfig (bitSet frame (base + 3)),
        .pubB .masterLowOffPumpControl (bitSet frame (base + 4)), .pubB .ch2Present (bitSet frame (base + 5))] }

/-- 42_response_dispatcher.md R189 with 30_encoding.md R82 (the spec's decision D14): frame bits 8, 9, 0, 1. -/
def Obligations.RemoteParameterResponsePublishesFourFlags : Prop :=
  ∀ (frame : Frame) (s : State), exec (.rspRBPflags frame) s =
    .next { s with events := s.events ++
      [.pubB .dhwSetpointTransferEnable (bitSet frame 8), .pubB .maxChSetpointTransferEnable (bitSet frame 9),
        .pubB .dhwSetpointRw (bitSet frame 0), .pubB .maxChSetpointRw (bitSet frame 1)] }

/-- 42_response_dispatcher.md R190 to R197, R199, R200, R204 (the spec's decision D2): each analog reading is
published as its signed payload divided by 256, under its own kind; nothing else changes. -/
def Obligations.AnalogResponsesPublishFixedPoint : Prop :=
  ∀ (frame : Frame) (s : State) (i : Instr) (k : SensorKind),
    (i, k) ∈ [(Instr.rspRelModLevel frame, SensorKind.relModLevel), (Instr.rspCHPressure frame, SensorKind.chPressure),
      (Instr.rspDHWFlowRate frame, SensorKind.dhwFlowRate), (Instr.rspTboiler frame, SensorKind.tBoiler),
      (Instr.rspTdhw frame, SensorKind.tDhw), (Instr.rspToutside frame, SensorKind.tOutside),
      (Instr.rspTret frame, SensorKind.tRet), (Instr.rspTstorage frame, SensorKind.tStorage),
      (Instr.rspTflowCH2 frame, SensorKind.tFlowCh2), (Instr.rspTdhw2 frame, SensorKind.tDhw2),
      (Instr.rspMaxTSet frame, SensorKind.maxTset)] →
    exec i s = .next { s with events := s.events ++ [.pubS k ((signedOf 16 (frame.toNat % 2 ^ 16) : Rat) / 256)] }

/-- 42_response_dispatcher.md R198, R201 (the spec's decision D2): collector and exhaust are published unscaled. -/
def Obligations.CollectorAndExhaustPublishUnscaled : Prop :=
  ∀ (frame : Frame) (s : State),
    exec (.rspTcollector frame) s = .next { s with events := s.events ++
      [.pubS .tCollector (signedOf 16 (frame.toNat % 2 ^ 16) : Rat)] } ∧
    exec (.rspTexhaust frame) s = .next { s with events := s.events ++
      [.pubS .tExhaust (signedOf 16 (frame.toNat % 2 ^ 16) : Rat)] }

/-- 42_response_dispatcher.md R202, R203 with 30_encoding.md R83 (the spec's decision D15): the upper bound from HB,
then the lower bound from LB, each a signed byte. -/
def Obligations.BoundaryPairsPublishBothBytes : Prop :=
  ∀ (frame : Frame) (s : State),
    exec (.rspTdhwSetUBTdhwSetLB frame) s = .next { s with events := s.events ++
      [.pubS .tdhwSetUb (signedOf 8 (frame.toNat / 2 ^ 8 % 2 ^ 8) : Rat),
        .pubS .tdhwSetLb (signedOf 8 (frame.toNat % 2 ^ 8) : Rat)] } ∧
    exec (.rspMaxTSetUBMaxTSetLB frame) s = .next { s with events := s.events ++
      [.pubS .maxTsetUb (signedOf 8 (frame.toNat / 2 ^ 8 % 2 ^ 8) : Rat),
        .pubS .maxTsetLb (signedOf 8 (frame.toNat % 2 ^ 8) : Rat)] }

/-- 42_response_dispatcher.md R205 to R212 (the spec's decision D2): each counter is published unsigned, unscaled. -/
def Obligations.CounterResponsesPublishUnsigned : Prop :=
  ∀ (frame : Frame) (s : State) (i : Instr) (k : SensorKind),
    (i, k) ∈ [(Instr.rspBurnerStarts frame, SensorKind.burnerStarts),
      (Instr.rspCHPumpStarts frame, SensorKind.chPumpStarts),
      (Instr.rspDHWPumpValveStarts frame, SensorKind.dhwPumpValveStarts),
      (Instr.rspDHWBurnerStarts frame, SensorKind.dhwBurnerStarts),
      (Instr.rspBurnerOperationHours frame, SensorKind.burnerOperationHours),
      (Instr.rspCHPumpOperationHours frame, SensorKind.chPumpOperationHours),
      (Instr.rspDHWPumpValveOperationHours frame, SensorKind.dhwPumpValveOperationHours),
      (Instr.rspDHWBurnerOperationHours frame, SensorKind.dhwBurnerOperationHours)] →
    exec i s = .next { s with events := s.events ++ [.pubS k ((frame.toNat % 2 ^ 16 : Nat) : Rat)] }

/-- 42_response_dispatcher.md R184, 60_exceptions.md R282: a frame whose bits 23 to 16 are no name's number runs
RSP.<unexpected>, which reports the identifier, invokes no sink, and changes nothing else. -/
def Obligations.UnexpectedResponsesAreReported : Prop :=
  ∀ (frame : Frame) (s : State),
    ((∀ n, (s.params.idMap.idOf n).toNat ≠ frame.toNat / 2 ^ 16 % 2 ^ 8) →
      decode s.params (responseCommand frame) = .ok (.rspUnexpected frame)) ∧
    exec (.rspUnexpected frame) s = .next { s with events := s.events ++
      [.diag (.unexpectedResponse (BitVec.ofNat 8 (frame.toNat / 2 ^ 16 % 2 ^ 8)))] }

/-- 60_exceptions.md R281 and R288, 42_response_dispatcher.md R180: a delivery whose status is NONE, INVALID or TIMEOUT
is dispatched to one report of its status and frame, whatever its identifier, in any tick; in a tick that reads not
ready the report follows `PROCESS` (the spec's decision D19) and nothing else changes (log entry 16). -/
def Obligations.InvalidDeliveriesAreReportedAndDropped : Prop :=
  ∀ (s : State) (d : Delivery), d.status ≠ .valid →
    (∀ p, dispatch p d = [.diag (.invalidResponse d.status d.frame)]) ∧
    (s.lc = .running → s.ports.ready = false → s.ports.rsp = some d →
      exec .opTick s = .next { s with
        events := s.events ++ [.process, .diag (.invalidResponse d.status d.frame)],
        ports := { s.ports with rsp := none } })

/-- 42_response_dispatcher.md R183 with 43_scheduler.md R249 (the spec's decisions D19, D20): dispatching a VALID frame
emits what the response row the frame decodes to emits. In a tick that reads not ready the row runs right after
`PROCESS`; in a ready one, under the invariant, the tick completes with `PROCESS` and the row's events together, after or
before its one issue event as `P_TICK_ORDER` says. The delivery is cleared (60_exceptions.md R289, log entry 16). -/
def Obligations.ValidDeliveriesRunTheirResponseRow : Prop :=
  ∀ (s : State) (frame : Frame) (i : Instr), decode s.params (responseCommand frame) = .ok i →
    exec i s = .next { s with events := s.events ++ dispatch s.params ⟨frame, .valid⟩ } ∧
    (s.lc = .running → s.ports.ready = false → s.ports.rsp = some ⟨frame, .valid⟩ →
      ∃ u, exec i { s with events := s.events ++ [.process] } = .next u ∧
        exec .opTick s = .next { u with ports := { u.ports with rsp := none } }) ∧
    (s.Inv → s.lc = .running → s.ports.ready = true → s.ports.rsp = some ⟨frame, .valid⟩ →
      ∃ (t : State) (es : List Event) (e : Event),
        exec i s = .next { s with events := s.events ++ es } ∧ exec .opTick s = .next t ∧ e.isIssue = true ∧
        t.ports.rsp = none ∧ t.events = s.events ++ (match s.params.tickOrder with
          | .sendThenProcess => e :: .process :: es
          | .processThenSend => .process :: es ++ [e]))

/-- 42_response_dispatcher.md R214, marked [derived]: of a VALID frame only bits 23 to 0 are read, so parity, type and
spare bits never change a tick. -/
def Obligations.ParityAndTypeBitsAreNeverRead : Prop :=
  ∀ (s s' : State) (f g : Frame), f.toNat % 2 ^ 24 = g.toNat % 2 ^ 24 →
    s.lc = .running → s.ports.rsp = some ⟨f, .valid⟩ →
    s' = { s with ports := { s.ports with rsp := some ⟨g, .valid⟩ } } → exec .opTick s = exec .opTick s'

/-- 40_codec.md R100, 41_request_builder.md R165, 42_response_dispatcher.md R213: everything but START, TICK and STOP
leaves the scheduler, the configuration, the lifecycle and the inputs as they are and sends no frame. -/
def Obligations.OnlyLifecycleOperationsMoveTheScheduler : Prop :=
  ∀ (i : Instr) (s t : State), i ≠ .opStart → i ≠ .opTick → i ≠ .opStop → exec i s = .next t →
    t.params = s.params ∧ t.cfgInit = s.cfgInit ∧ t.cfgRep = s.cfgRep ∧ t.rep = s.rep ∧
    t.initializing = s.initializing ∧ t.cursor = s.cursor ∧ t.lc = s.lc ∧ t.ports = s.ports ∧
    t.pending = s.pending ∧ t.events.filter Event.isTx = s.events.filter Event.isTx

/-- 42_response_dispatcher.md R181, R182 (the spec's decision D16): a name's response publishes every kind of that name
and no other, each once, so the sink view after it is the same in whatever order its events come. -/
def Obligations.ResponsesPublishTheirOwnKindsOnce : Prop :=
  ∀ (n : MsgName) (frame : Frame) (s : State), ∃ es : List Event,
    exec (Instr.rspOf n frame) s = .next { s with events := s.events ++ es } ∧
    (∀ k, (∃ q, Event.pubS k q ∈ es) ↔ k.codeOwner.2 = n) ∧ (∀ k, (∃ b, Event.pubB k b ∈ es) ↔ k.codeOwner.2 = n) ∧
    (es.filterMap fun e => match e with
      | .pubS k _ => some (Sum.inl (β := Nat) k.codeOwner.1)
      | .pubB k _ => some (Sum.inr k.codeOwner.1)
      | _ => none).Nodup ∧
    (∀ history es' : List Event, es'.Perm es →
      (∀ k, sinkSensor (history ++ es') k = sinkSensor (history ++ es) k) ∧
      (∀ k, sinkBinary (history ++ es') k = sinkBinary (history ++ es) k))

/-- 10_state.md R37 (the spec's decision D33): in any history the sink holds, for each kind, the last value published
under it, and no value for a kind never published; after a tick it is what the dispatch of its delivery, if one came,
makes of the sink before it; after a name's response row it holds what the row published, and every kind of another name
keeps its value. -/
def Obligations.SinkHoldsTheLastPublishedValue : Prop :=
  (∀ (before after : List Event) (k : SensorKind) (q : Rat), (∀ q', Event.pubS k q' ∉ after) →
    sinkSensor (before ++ .pubS k q :: after) k = some q) ∧
  (∀ (before after : List Event) (k : BinaryKind) (b : Bool), (∀ b', Event.pubB k b' ∉ after) →
    sinkBinary (before ++ .pubB k b :: after) k = some b) ∧
  (∀ (history : List Event) (k : SensorKind), sinkSensor history k = none ↔ ∀ q, Event.pubS k q ∉ history) ∧
  (∀ (history : List Event) (k : BinaryKind), sinkBinary history k = none ↔ ∀ b, Event.pubB k b ∉ history) ∧
  (∀ (s t : State) (received : List Event), s.lc = .running → exec .opTick s = .next t →
    received = (match s.ports.rsp with
      | none => []
      | some d => dispatch s.params d) →
    (∀ k, sinkSensor t.events k = sinkSensor (s.events ++ received) k) ∧
    (∀ k, sinkBinary t.events k = sinkBinary (s.events ++ received) k)) ∧
  (∀ (n : MsgName) (frame : Frame) (s t : State), exec (Instr.rspOf n frame) s = .next t →
    ∃ es, t.events = s.events ++ es ∧
      (∀ k q, Event.pubS k q ∈ es → sinkSensor t.events k = some q) ∧
      (∀ k b, Event.pubB k b ∈ es → sinkBinary t.events k = some b) ∧
      (∀ k, k.codeOwner.2 ≠ n → sinkSensor t.events k = sinkSensor s.events k) ∧
      (∀ k, k.codeOwner.2 ≠ n → sinkBinary t.events k = sinkBinary s.events k))

/-! ### The lifecycle operations and the scheduler -/

/-- 43_scheduler.md R241 with 10_state.md R24: START from CONSTRUCTED takes `CFG_REP`, or Status alone when it is
empty, and puts the scheduler at the start of `CFG_INIT`; it emits nothing and changes nothing else. -/
def Obligations.StartSetsTheScheduler : Prop :=
  ∀ s : State, s.lc = .constructed →
    (s.cfgRep = [] → exec .opStart s = .next { s with
      rep := [s.params.idMap.status], initializing := true, cursor := 0, lc := .running }) ∧
    (s.cfgRep ≠ [] → exec .opStart s = .next { s with
      rep := s.cfgRep, initializing := true, cursor := 0, lc := .running })

/-- 43_scheduler.md R240, R243, R253 (the spec's decision D22): the lifecycle table outside the RUNNING tick. -/
def Obligations.LifecycleTableIsObeyed : Prop :=
  ∀ s : State,
    (s.lc = .constructed → exec .opTick s = .refused .tickBeforeStart) ∧
    (s.lc = .stopped → exec .opTick s = .next s ∧ exec .opStop s = .next s) ∧
    (s.lc ≠ .constructed → exec .opStart s = .refused .startRepeated) ∧
    (s.lc ≠ .stopped → exec .opStop s = .next { s with lc := .stopped })

/-- 43_scheduler.md R245 and R249 (the spec's decision D19): a tick that finds the transceiver not ready, with no
delivery, emits `PROCESS` and moves nothing. -/
def Obligations.NotReadyTickOnlyProcesses : Prop :=
  ∀ s : State, s.lc = .running → s.ports.ready = false → s.ports.rsp = none →
    exec .opTick s = .next { s with events := s.events ++ [.process] }

/-- 43_scheduler.md R242 and R245 to R249 (the spec's decisions D19 to D21): under the invariant, every ready tick of
a RUNNING block completes; it changes phase or wraps at the end of the active list, issues the entry there as the REQ
row of its identifier returns, advances by one also on a failed build, and receives, in the order of `P_TICK_ORDER`. -/
def Obligations.ReadyTickIssuesTheEntryAtTheCursor : Prop :=
  ∀ (s : State), s.Inv → s.lc = .running → s.ports.ready = true →
    ∃ (id : MsgId) (u : State) (e : Event) (received : List Event),
      s.nextEntry = some id ∧ exec (requestInstr s.params id) s = .next u ∧ issuedFor u.returned = some e ∧
      received = .process :: (match s.ports.rsp with
        | none => []
        | some d => dispatch s.params d) ∧
      exec .opTick s = .next { s with
        initializing := s.nextPosition.1, cursor := s.nextPosition.2 + 1, ports := { s.ports with rsp := none },
        events := s.events ++ (match s.params.tickOrder with
          | .sendThenProcess => e :: received
          | .processThenSend => received ++ [e]) }

/-- 60_exceptions.md R283, with 43_scheduler.md R248 (the spec's decision D21: the cursor advances also on a failed
build): a ready tick whose entry has no encoding rule reports the identifier, sends no frame, and advances as on success;
every later build of the identifier fails too. -/
def Obligations.UnknownEntriesAreReportedAndSkipped : Prop :=
  ∀ (s : State) (id : MsgId), s.Inv → s.lc = .running → s.ports.ready = true → s.nextEntry = some id →
    requestInstr s.params id = .reqUnknown id →
    (∃ t, exec .opTick s = .next t ∧
      t.events.filter Event.isIssue = s.events.filter Event.isIssue ++ [.diag (.unknownRequest id)] ∧
      t.events.filter Event.isTx = s.events.filter Event.isTx ∧ t.cursor = s.nextPosition.2 + 1) ∧
    ∀ s' : State, s'.params = s.params →
      exec (requestInstr s'.params id) s' = .next { s' with returned := .unknownRequest id }

/-- 43_scheduler.md R250, marked [derived]: a RUNNING tick emits exactly one issue event when it reads ready, and none
when it reads not ready. -/
def Obligations.OneRequestPerReadyTick : Prop :=
  ∀ (s t : State), s.lc = .running → exec .opTick s = .next t →
    ∃ es, t.events = s.events ++ es ∧
      (s.ports.ready = true → ∃ e, es.filter Event.isIssue = [e]) ∧
      (s.ports.ready = false → es.filter Event.isIssue = [] ∧ t.initializing = s.initializing ∧ t.cursor = s.cursor)

/-- 43_scheduler.md R251, marked [derived]: after START and any ticks, k of them ready, the scheduler stands where the
closed form says; no tick stops. -/
def Obligations.SchedulePositionAfterKReadyTicks : Prop :=
  ∀ s : State, s.lc = .constructed → ∃ s₁, exec .opStart s = .next s₁ ∧
    ∀ (inputs : List Ports) (k : Nat), k = (inputs.filter fun x => x.ready).length →
      ∃ t, ticks s₁ inputs = some t ∧ t.lc = .running ∧
        (k ≤ s.cfgInit.length → t.initializing = true ∧ t.cursor = k) ∧
        (s.cfgInit.length < k → t.initializing = false ∧
          t.cursor = (k - 1 - s.cfgInit.length) % s₁.rep.length + 1)

/-- 43_scheduler.md R251, marked [derived]: the ready tick after k ready ticks issues entry(k + 1), and its result is
the next issue event of the history. -/
def Obligations.ReadyTicksIssueTheScheduleInOrder : Prop :=
  ∀ s s₁ t : State, s.lc = .constructed → exec .opStart s = .next s₁ →
    ∀ (inputs : List Ports) (k : Nat), k = (inputs.filter fun x => x.ready).length → ticks s₁ inputs = some t →
      ∀ x : Ports, x.ready = true → ∃ u id, ticks t [x] = some u ∧
        scheduleEntry s.cfgInit s₁.rep (k + 1) = some id ∧
        u.events.filter Event.isIssue =
          t.events.filter Event.isIssue ++ [issueEvent (build s.params x id)]

/-- 70_reset_and_hazards.md R319 with 43_scheduler.md R242 (the spec's decision D20): over any run of ticks the two
tick orders reach the same scheduler state, send the same requests in the same order, and dispatch the same events in
the same order; under the invariant both runs complete. -/
def Obligations.TickOrderChangesOnlyTheInterleaving : Prop :=
  ∀ (s : State) (inputs : List Ports), s.lc = .running →
    (s.Inv → (∃ t, ticks (s.withTickOrder .sendThenProcess) inputs = some t) ∧
      ∃ t', ticks (s.withTickOrder .processThenSend) inputs = some t') ∧
    ∀ t t' : State, ticks (s.withTickOrder .sendThenProcess) inputs = some t →
      ticks (s.withTickOrder .processThenSend) inputs = some t' →
      t.initializing = t'.initializing ∧ t.cursor = t'.cursor ∧ t.rep = t'.rep ∧ t.lc = t'.lc ∧
      t.events.filter Event.isIssue = t'.events.filter Event.isIssue ∧
      (t.events.filter fun e => !e.isIssue) = t'.events.filter fun e => !e.isIssue

/-- 70_reset_and_hazards.md R314 with 60_exceptions.md R296: under the transceiver's duty at the send phase, a tick
keeps the history free of a second request while one is in flight. That a flight ends at the next dispatched delivery,
of any status or identifier, and in no other way, is the model's choice (log entry 26). -/
def Obligations.DutyKeepsOneRequestOutstanding : Prop :=
  ∀ s t : State, exec .opTick s = .next t →
    (s.params.tickOrder = .sendThenProcess → s.transceiverDuty) →
    (s.params.tickOrder = .processThenSend → (receivePhase s).transceiverDuty) →
    singleOutstanding s.events → singleOutstanding t.events

/-- 70_reset_and_hazards.md R320, marked [derived]: in REPEATING, with no entry of `REP` in `BUILD_SET`, no run of
ticks sends a frame. -/
def Obligations.UnknownSchedulesSendNothing : Prop :=
  ∀ (s t : State) (inputs : List Ports), s.lc = .running → s.initializing = false →
    (∀ id ∈ s.rep, requestInstr s.params id = .reqUnknown id) → ticks s inputs = some t →
    t.events.filter Event.isTx = s.events.filter Event.isTx

/-! ### The whole machine -/

/-- 70_reset_and_hazards.md R310 (the spec's decision D36): construction, and the block at reset; the empty lists of
reset are the model's choice (log entry 10). -/
def Obligations.ConstructionLeavesTheStatedValues : Prop :=
  (∀ (p : Config.Params) (init rep : List MsgId), (State.construct p init rep).initializing = true ∧
    (State.construct p init rep).cursor = 0 ∧ (State.construct p init rep).lc = .constructed ∧
    (State.construct p init rep).events = [] ∧ (State.construct p init rep).cfgInit = init ∧
    (State.construct p init rep).cfgRep = rep ∧ (State.construct p init rep).params = p) ∧
  State.reset = State.construct Config.defaults [] []

/-- 10_state.md R27 (marked [derived]) at construction: lists that fit `P_LIST_MAX` give a state of the invariant;
so does reset. -/
def Obligations.InvariantHoldsAtConstruction : Prop :=
  (∀ (p : Config.Params) (init rep : List MsgId), 1 ≤ p.listMax → init.length ≤ p.listMax →
    rep.length ≤ p.listMax → (State.construct p init rep).Inv) ∧ State.reset.Inv

/-- 10_state.md R27, marked [derived]: every step of the machine keeps the scheduler's invariant. -/
def Obligations.EveryStepKeepsTheInvariant : Prop :=
  ∀ s t : State, s.Inv → step s = .next t → t.Inv

/-- 10_state.md R27 (marked [derived]) and 60_exceptions.md R280: under the invariant no step faults; errors are
events. -/
def Obligations.NoStepFaultsUnderTheInvariant : Prop :=
  ∀ (s : State) (r : Fault), s.Inv → step s ≠ .fault r

/-- 10_state.md R26, R27: under the invariant the cursor fits its width of ceil(log2(P_LIST_MAX + 1)) bits. -/
def Obligations.CursorFitsItsWidth : Prop :=
  ∀ s : State, s.Inv → s.cursor < 2 ^ cursorWidth s.params ∧ 2 ^ (cursorWidth s.params - 1) < s.params.listMax + 1

/-- 10_state.md R23, R24, 20_memory.md R62 ([derived]): the configured lists are those given at construction and no step
changes them; only START writes `REP`. 70_reset_and_hazards.md R310 (the spec's decision D36): nor does a step change the
parameters, which the model holds in State by its own choice (log entry 5). -/
def Obligations.ConfigurationNeverChanges : Prop :=
  (∀ (p : Config.Params) (init rep : List MsgId),
    (State.construct p init rep).cfgInit = init ∧ (State.construct p init rep).cfgRep = rep) ∧
  ∀ s t : State, step s = .next t → t.params = s.params ∧ t.cfgInit = s.cfgInit ∧ t.cfgRep = s.cfgRep ∧
    (t.rep ≠ s.rep → s.lc = .constructed ∧ t.lc = .running ∧ t.rep = s.effectiveRep)

/-- 20_memory.md R56: every step only appends to the event history. -/
def Obligations.HistoryIsAppendOnly : Prop :=
  ∀ s t : State, step s = .next t → s.events <+: t.events

/-- 10_state.md R25, R28, 43_scheduler.md R252, 60_exceptions.md R293 (derived, and the spec's decisions D22, D29):
once START has run, the phase never returns to INITIALIZING; the lifecycle moves only forward; STOPPED is final. -/
def Obligations.PhaseAndLifecycleMoveForward : Prop :=
  ∀ s t : State, step s = .next t →
    (s.lc ≠ .constructed → s.initializing = false → t.initializing = false) ∧
    (s.lc = .constructed ∨ t.lc ≠ .constructed) ∧ (s.lc = .stopped → t.lc = .stopped)

/-- 43_scheduler.md R245, R253, 42_response_dispatcher.md R213: a step that sends a frame is a RUNNING tick that read
ready; in STOPPED nothing is ever sent. 60_exceptions.md R289, R296 (the spec's decisions D19, D39): a step that
dispatches anything is a RUNNING tick, whichever way the frame was presented (log entry 18): it emits one `PROCESS` and
leaves no delivery at the port. -/
def Obligations.OnlyRunningTicksTransmitOrDispatch : Prop :=
  ∀ (s t : State), step s = .next t →
    (t.events.filter Event.isTx ≠ s.events.filter Event.isTx →
      s.lc = .running ∧ ∃ c rest, s.pending = c :: rest ∧ decode s.params c.command = .ok .opTick ∧
        c.inputs.ready = true) ∧
    (t.events.filter Event.isDispatch ≠ s.events.filter Event.isDispatch →
      s.lc = .running ∧ (∃ c rest, s.pending = c :: rest ∧
        (c.command.port = .response ∨ decode s.params c.command = .ok .opTick)) ∧
      t.ports.rsp = none ∧
      ∃ es, t.events = s.events ++ es ∧ (es.filter fun e => decide (e = .process)) = [.process])

/-- 42_response_dispatcher.md R213: a response row reads and writes no block state and emits no `TX`; an invalid
delivery invokes no sink; and whatever a tick receives, the scheduler after it and the requests sent are the same. -/
def Obligations.ResponsesNeverTouchTheScheduler : Prop :=
  (∀ (frame : Frame) (i : Instr) (s s' : State), s.params = s'.params →
    decode s.params (responseCommand frame) = .ok i →
    ∃ es : List Event, es.filter Event.isTx = [] ∧
      exec i s = .next { s with events := s.events ++ es } ∧
      exec i s' = .next { s' with events := s'.events ++ es }) ∧
  (∀ (p : Config.Params) (d : Delivery), (dispatch p d).filter Event.isTx = [] ∧
    (d.status ≠ .valid → (dispatch p d).filter Event.isPublish = [])) ∧
  (∀ (s t t' : State) (d : Option Delivery),
    exec .opTick s = .next t → exec .opTick { s with ports := { s.ports with rsp := d } } = .next t' →
    t.initializing = t'.initializing ∧ t.cursor = t'.cursor ∧ t.rep = t'.rep ∧ t.lc = t'.lc ∧
    t.events.filter Event.isIssue = t'.events.filter Event.isIssue)

/-- 30_encoding.md R89, 42_response_dispatcher.md R181, 60_exceptions.md R280 (the spec's decisions D18, D16, D23): the
2-bit status codes, the code and the identifier of every sensor and binary kind, and the diagnostic codes, as tabled; the
codes name every status and every kind once. -/
def Obligations.CodesNameTheirThingsOnce : Prop :=
  Validity.none.code = 0 ∧ Validity.valid.code = 1 ∧ Validity.invalid.code = 2 ∧ Validity.timeout.code = 3 ∧
  (∀ v : Validity, Validity.ofCode v.code = v) ∧ (∀ c : BitVec 2, (Validity.ofCode c).code = c) ∧
  SensorKind.relModLevel.codeOwner = (1, .relModLevel) ∧ SensorKind.chPressure.codeOwner = (2, .chPressure) ∧
  SensorKind.dhwFlowRate.codeOwner = (3, .dhwFlowRate) ∧ SensorKind.tBoiler.codeOwner = (4, .tboiler) ∧
  SensorKind.tDhw.codeOwner = (5, .tdhw) ∧ SensorKind.tOutside.codeOwner = (6, .toutside) ∧
  SensorKind.tRet.codeOwner = (7, .tret) ∧ SensorKind.tStorage.codeOwner = (8, .tstorage) ∧
  SensorKind.tCollector.codeOwner = (9, .tcollector) ∧ SensorKind.tFlowCh2.codeOwner = (10, .tflowCH2) ∧
  SensorKind.tDhw2.codeOwner = (11, .tdhw2) ∧ SensorKind.tExhaust.codeOwner = (12, .texhaust) ∧
  SensorKind.tdhwSetUb.codeOwner = (13, .tdhwSetUBTdhwSetLB) ∧
  SensorKind.tdhwSetLb.codeOwner = (14, .tdhwSetUBTdhwSetLB) ∧
  SensorKind.maxTsetUb.codeOwner = (15, .maxTSetUBMaxTSetLB) ∧
  SensorKind.maxTsetLb.codeOwner = (16, .maxTSetUBMaxTSetLB) ∧ SensorKind.maxTset.codeOwner = (17, .maxTSet) ∧
  SensorKind.burnerStarts.codeOwner = (18, .burnerStarts) ∧ SensorKind.chPumpStarts.codeOwner = (19, .chPumpStarts) ∧
  SensorKind.dhwPumpValveStarts.codeOwner = (20, .dhwPumpValveStarts) ∧
  SensorKind.dhwBurnerStarts.codeOwner = (21, .dhwBurnerStarts) ∧
  SensorKind.burnerOperationHours.codeOwner = (22, .burnerOperationHours) ∧
  SensorKind.chPumpOperationHours.codeOwner = (23, .chPumpOperationHours) ∧
  SensorKind.dhwPumpValveOperationHours.codeOwner = (24, .dhwPumpValveOperationHours) ∧
  SensorKind.dhwBurnerOperationHours.codeOwner = (25, .dhwBurnerOperationHours) ∧
  BinaryKind.fault.codeOwner = (1, .status) ∧ BinaryKind.chActive.codeOwner = (2, .status) ∧
  BinaryKind.dhwActive.codeOwner = (3, .status) ∧ BinaryKind.flameOn.codeOwner = (4, .status) ∧
  BinaryKind.coolingActive.codeOwner = (5, .status) ∧ BinaryKind.ch2Active.codeOwner = (6, .status) ∧
  BinaryKind.diagnostic.codeOwner = (7, .status) ∧ BinaryKind.dhwPresent.codeOwner = (8, .sConfigSMemberIDcode) ∧
  BinaryKind.controlType.codeOwner = (9, .sConfigSMemberIDcode) ∧
  BinaryKind.coolingConfig.codeOwner = (10, .sConfigSMemberIDcode) ∧
  BinaryKind.dhwConfig.codeOwner = (11, .sConfigSMemberIDcode) ∧
  BinaryKind.masterLowOffPumpControl.codeOwner = (12, .sConfigSMemberIDcode) ∧
  BinaryKind.ch2Present.codeOwner = (13, .sConfigSMemberIDcode) ∧
  BinaryKind.dhwSetpointTransferEnable.codeOwner = (14, .rbpFlags) ∧
  BinaryKind.maxChSetpointTransferEnable.codeOwner = (15, .rbpFlags) ∧
  BinaryKind.dhwSetpointRw.codeOwner = (16, .rbpFlags) ∧ BinaryKind.maxChSetpointRw.codeOwner = (17, .rbpFlags) ∧
  (∀ k k' : SensorKind, k.codeOwner.1 = k'.codeOwner.1 → k = k') ∧
  (∀ k k' : BinaryKind, k.codeOwner.1 = k'.codeOwner.1 → k = k') ∧
  (∀ v f, (Diag.invalidResponse v f).code = 1) ∧ (∀ id, (Diag.unexpectedResponse id).code = 2) ∧
  (∀ id, (Diag.unknownRequest id).code = 3) ∧ (∀ id q, (Diag.logEcho id q).code = 4)
end

