-- ==== Sys2Proof/Laws/State.lean ====
section
/-! SUPPORT. One lemma per field of State and per update, true by rfl, so that no proof unfolds a record update. -/

namespace Sys2Proof.Machine

section emit
variable (s : State) (es : List Event)
@[simp] theorem emit_params : (s.emit es).params = s.params := rfl
@[simp] theorem emit_cfgInit : (s.emit es).cfgInit = s.cfgInit := rfl
@[simp] theorem emit_cfgRep : (s.emit es).cfgRep = s.cfgRep := rfl
@[simp] theorem emit_rep : (s.emit es).rep = s.rep := rfl
@[simp] theorem emit_initializing : (s.emit es).initializing = s.initializing := rfl
@[simp] theorem emit_cursor : (s.emit es).cursor = s.cursor := rfl
@[simp] theorem emit_lc : (s.emit es).lc = s.lc := rfl
@[simp] theorem emit_events : (s.emit es).events = s.events ++ es := rfl
@[simp] theorem emit_ports : (s.emit es).ports = s.ports := rfl
@[simp] theorem emit_pending : (s.emit es).pending = s.pending := rfl
@[simp] theorem emit_returned : (s.emit es).returned = s.returned := rfl
end emit

section returning
variable (s : State) (r : Returned)
@[simp] theorem returning_params : (s.returning r).params = s.params := rfl
@[simp] theorem returning_cfgInit : (s.returning r).cfgInit = s.cfgInit := rfl
@[simp] theorem returning_cfgRep : (s.returning r).cfgRep = s.cfgRep := rfl
@[simp] theorem returning_rep : (s.returning r).rep = s.rep := rfl
@[simp] theorem returning_initializing : (s.returning r).initializing = s.initializing := rfl
@[simp] theorem returning_cursor : (s.returning r).cursor = s.cursor := rfl
@[simp] theorem returning_lc : (s.returning r).lc = s.lc := rfl
@[simp] theorem returning_events : (s.returning r).events = s.events := rfl
@[simp] theorem returning_ports : (s.returning r).ports = s.ports := rfl
@[simp] theorem returning_pending : (s.returning r).pending = s.pending := rfl
@[simp] theorem returning_returned : (s.returning r).returned = r := rfl
end returning

section started
variable (s : State)
@[simp] theorem started_params : (s.started).params = s.params := rfl
@[simp] theorem started_cfgInit : (s.started).cfgInit = s.cfgInit := rfl
@[simp] theorem started_cfgRep : (s.started).cfgRep = s.cfgRep := rfl
@[simp] theorem started_rep : (s.started).rep = s.effectiveRep := rfl
@[simp] theorem started_initializing : (s.started).initializing = true := rfl
@[simp] theorem started_cursor : (s.started).cursor = 0 := rfl
@[simp] theorem started_lc : (s.started).lc = .running := rfl
@[simp] theorem started_events : (s.started).events = s.events := rfl
@[simp] theorem started_ports : (s.started).ports = s.ports := rfl
@[simp] theorem started_pending : (s.started).pending = s.pending := rfl
@[simp] theorem started_returned : (s.started).returned = s.returned := rfl
end started

section halted
variable (s : State)
@[simp] theorem halted_params : (s.halted).params = s.params := rfl
@[simp] theorem halted_cfgInit : (s.halted).cfgInit = s.cfgInit := rfl
@[simp] theorem halted_cfgRep : (s.halted).cfgRep = s.cfgRep := rfl
@[simp] theorem halted_rep : (s.halted).rep = s.rep := rfl
@[simp] theorem halted_initializing : (s.halted).initializing = s.initializing := rfl
@[simp] theorem halted_cursor : (s.halted).cursor = s.cursor := rfl
@[simp] theorem halted_lc : (s.halted).lc = .stopped := rfl
@[simp] theorem halted_events : (s.halted).events = s.events := rfl
@[simp] theorem halted_ports : (s.halted).ports = s.ports := rfl
@[simp] theorem halted_pending : (s.halted).pending = s.pending := rfl
@[simp] theorem halted_returned : (s.halted).returned = s.returned := rfl
end halted

section enterRepeating
variable (s : State)
@[simp] theorem enterRepeating_params : (s.enterRepeating).params = s.params := rfl
@[simp] theorem enterRepeating_cfgInit : (s.enterRepeating).cfgInit = s.cfgInit := rfl
@[simp] theorem enterRepeating_cfgRep : (s.enterRepeating).cfgRep = s.cfgRep := rfl
@[simp] theorem enterRepeating_rep : (s.enterRepeating).rep = s.rep := rfl
@[simp] theorem enterRepeating_initializing : (s.enterRepeating).initializing = false := rfl
@[simp] theorem enterRepeating_cursor : (s.enterRepeating).cursor = 0 := rfl
@[simp] theorem enterRepeating_lc : (s.enterRepeating).lc = s.lc := rfl
@[simp] theorem enterRepeating_events : (s.enterRepeating).events = s.events := rfl
@[simp] theorem enterRepeating_ports : (s.enterRepeating).ports = s.ports := rfl
@[simp] theorem enterRepeating_pending : (s.enterRepeating).pending = s.pending := rfl
@[simp] theorem enterRepeating_returned : (s.enterRepeating).returned = s.returned := rfl
end enterRepeating

section wrapCursor
variable (s : State)
@[simp] theorem wrapCursor_params : (s.wrapCursor).params = s.params := rfl
@[simp] theorem wrapCursor_cfgInit : (s.wrapCursor).cfgInit = s.cfgInit := rfl
@[simp] theorem wrapCursor_cfgRep : (s.wrapCursor).cfgRep = s.cfgRep := rfl
@[simp] theorem wrapCursor_rep : (s.wrapCursor).rep = s.rep := rfl
@[simp] theorem wrapCursor_initializing : (s.wrapCursor).initializing = s.initializing := rfl
@[simp] theorem wrapCursor_cursor : (s.wrapCursor).cursor = 0 := rfl
@[simp] theorem wrapCursor_lc : (s.wrapCursor).lc = s.lc := rfl
@[simp] theorem wrapCursor_events : (s.wrapCursor).events = s.events := rfl
@[simp] theorem wrapCursor_ports : (s.wrapCursor).ports = s.ports := rfl
@[simp] theorem wrapCursor_pending : (s.wrapCursor).pending = s.pending := rfl
@[simp] theorem wrapCursor_returned : (s.wrapCursor).returned = s.returned := rfl
end wrapCursor

section advance
variable (s : State)
@[simp] theorem advance_params : (s.advance).params = s.params := rfl
@[simp] theorem advance_cfgInit : (s.advance).cfgInit = s.cfgInit := rfl
@[simp] theorem advance_cfgRep : (s.advance).cfgRep = s.cfgRep := rfl
@[simp] theorem advance_rep : (s.advance).rep = s.rep := rfl
@[simp] theorem advance_initializing : (s.advance).initializing = s.initializing := rfl
@[simp] theorem advance_cursor : (s.advance).cursor = s.cursor + 1 := rfl
@[simp] theorem advance_lc : (s.advance).lc = s.lc := rfl
@[simp] theorem advance_events : (s.advance).events = s.events := rfl
@[simp] theorem advance_ports : (s.advance).ports = s.ports := rfl
@[simp] theorem advance_pending : (s.advance).pending = s.pending := rfl
@[simp] theorem advance_returned : (s.advance).returned = s.returned := rfl
end advance

section deliveryTaken
variable (s : State)
@[simp] theorem deliveryTaken_params : (s.deliveryTaken).params = s.params := rfl
@[simp] theorem deliveryTaken_cfgInit : (s.deliveryTaken).cfgInit = s.cfgInit := rfl
@[simp] theorem deliveryTaken_cfgRep : (s.deliveryTaken).cfgRep = s.cfgRep := rfl
@[simp] theorem deliveryTaken_rep : (s.deliveryTaken).rep = s.rep := rfl
@[simp] theorem deliveryTaken_initializing : (s.deliveryTaken).initializing = s.initializing := rfl
@[simp] theorem deliveryTaken_cursor : (s.deliveryTaken).cursor = s.cursor := rfl
@[simp] theorem deliveryTaken_lc : (s.deliveryTaken).lc = s.lc := rfl
@[simp] theorem deliveryTaken_events : (s.deliveryTaken).events = s.events := rfl
@[simp] theorem deliveryTaken_ports : (s.deliveryTaken).ports = ⟨s.ports.ready, none, s.ports.setpoints, s.ports.flags⟩ := rfl
@[simp] theorem deliveryTaken_pending : (s.deliveryTaken).pending = s.pending := rfl
@[simp] theorem deliveryTaken_returned : (s.deliveryTaken).returned = s.returned := rfl
end deliveryTaken

@[simp] theorem emit_nil (s : State) : s.emit [] = s := by simp [State.emit]

@[simp] theorem emit_emit (s : State) (es fs : List Event) : (s.emit es).emit fs = s.emit (es ++ fs) := by
  simp [State.emit]

@[simp] theorem emit_activeList (s : State) (es : List Event) : (s.emit es).activeList = s.activeList := rfl

@[simp] theorem emit_effectiveRep (s : State) (es : List Event) : (s.emit es).effectiveRep = s.effectiveRep := rfl

@[simp] theorem advance_activeList (s : State) : s.advance.activeList = s.activeList := rfl

@[simp] theorem advance_effectiveRep (s : State) : s.advance.effectiveRep = s.effectiveRep := rfl

@[simp] theorem deliveryTaken_activeList (s : State) : s.deliveryTaken.activeList = s.activeList := rfl

@[simp] theorem deliveryTaken_effectiveRep (s : State) : s.deliveryTaken.effectiveRep = s.effectiveRep := rfl

@[simp] theorem returning_activeList (s : State) (r : Returned) : (s.returning r).activeList = s.activeList := rfl

@[simp] theorem returning_effectiveRep (s : State) (r : Returned) : (s.returning r).effectiveRep = s.effectiveRep := rfl

@[simp] theorem enterRepeating_activeList (s : State) : s.enterRepeating.activeList = s.rep := rfl

@[simp] theorem enterRepeating_effectiveRep (s : State) : s.enterRepeating.effectiveRep = s.effectiveRep := rfl

@[simp] theorem wrapCursor_activeList (s : State) : s.wrapCursor.activeList = s.activeList := rfl

@[simp] theorem wrapCursor_effectiveRep (s : State) : s.wrapCursor.effectiveRep = s.effectiveRep := rfl

@[simp] theorem started_activeList (s : State) : s.started.activeList = s.cfgInit := rfl

@[simp] theorem started_effectiveRep (s : State) : s.started.effectiveRep = s.effectiveRep := rfl

@[simp] theorem halted_activeList (s : State) : s.halted.activeList = s.activeList := rfl

@[simp] theorem halted_effectiveRep (s : State) : s.halted.effectiveRep = s.effectiveRep := rfl

@[simp] theorem operating_params (s : State) : s.operating.params = s.params := by
  unfold State.operating; split <;> rfl

@[simp] theorem operating_ports (s : State) : s.operating.ports = s.ports := by
  unfold State.operating; split <;> rfl

@[simp] theorem operating_pending (s : State) : s.operating.pending = s.pending := by
  unfold State.operating; split <;> rfl

@[simp] theorem operating_lc (s : State) : s.operating.lc = .running := by
  unfold State.operating; split
  · assumption
  · rfl

theorem activeList_of_initializing {s : State} (h : s.initializing = true) : s.activeList = s.cfgInit := by
  simp [State.activeList, h]

theorem activeList_of_repeating {s : State} (h : s.initializing = false) : s.activeList = s.rep := by
  simp [State.activeList, h]

/-- The effective repeating list is never empty (10_state.md R24). -/
theorem effectiveRep_length_pos (s : State) : 1 ≤ s.effectiveRep.length := by
  unfold State.effectiveRep
  split
  · simp
  · omega

end Sys2Proof.Machine
end

