-- ==== Sys2Proof/Laws/Ops.lean ====
section
/-! SUPPORT. What each shared operation can do, said once: the phases of a tick, dispatch, and exec as a whole. -/

namespace Sys2Proof.Machine

/-- Steps 1 and 2 end in one of three states. -/
theorem rewind_cases (s : State) :
    (s.initializing = true ∧ s.cursor = s.cfgInit.length ∧ rewind s = s.enterRepeating) ∨
    (s.initializing = false ∧ s.cursor = s.rep.length ∧ rewind s = s.wrapCursor) ∨
    (s.cursor ≠ s.activeList.length ∧ rewind s = s) := by
  unfold rewind
  by_cases hi : s.initializing = true
  · by_cases hc : s.cursor = s.cfgInit.length
    · simp [hi, hc]
    · simp [hi, hc, activeList_of_initializing hi]
  · have hi' : s.initializing = false := by simpa using hi
    by_cases hc : s.cursor = s.rep.length
    · simp [hi', hc]
    · simp [hi', hc, activeList_of_repeating hi']

@[simp] theorem rewind_params (s : State) : (rewind s).params = s.params := by
  rcases rewind_cases s with ⟨-, -, h⟩ | ⟨-, -, h⟩ | ⟨-, h⟩ <;> rw [h] <;> rfl
@[simp] theorem rewind_cfgInit (s : State) : (rewind s).cfgInit = s.cfgInit := by
  rcases rewind_cases s with ⟨-, -, h⟩ | ⟨-, -, h⟩ | ⟨-, h⟩ <;> rw [h] <;> rfl
@[simp] theorem rewind_cfgRep (s : State) : (rewind s).cfgRep = s.cfgRep := by
  rcases rewind_cases s with ⟨-, -, h⟩ | ⟨-, -, h⟩ | ⟨-, h⟩ <;> rw [h] <;> rfl
@[simp] theorem rewind_rep (s : State) : (rewind s).rep = s.rep := by
  rcases rewind_cases s with ⟨-, -, h⟩ | ⟨-, -, h⟩ | ⟨-, h⟩ <;> rw [h] <;> rfl
@[simp] theorem rewind_lc (s : State) : (rewind s).lc = s.lc := by
  rcases rewind_cases s with ⟨-, -, h⟩ | ⟨-, -, h⟩ | ⟨-, h⟩ <;> rw [h] <;> rfl
@[simp] theorem rewind_events (s : State) : (rewind s).events = s.events := by
  rcases rewind_cases s with ⟨-, -, h⟩ | ⟨-, -, h⟩ | ⟨-, h⟩ <;> rw [h] <;> rfl
@[simp] theorem rewind_ports (s : State) : (rewind s).ports = s.ports := by
  rcases rewind_cases s with ⟨-, -, h⟩ | ⟨-, -, h⟩ | ⟨-, h⟩ <;> rw [h] <;> rfl
@[simp] theorem rewind_pending (s : State) : (rewind s).pending = s.pending := by
  rcases rewind_cases s with ⟨-, -, h⟩ | ⟨-, -, h⟩ | ⟨-, h⟩ <;> rw [h] <;> rfl
@[simp] theorem rewind_returned (s : State) : (rewind s).returned = s.returned := by
  rcases rewind_cases s with ⟨-, -, h⟩ | ⟨-, -, h⟩ | ⟨-, h⟩ <;> rw [h] <;> rfl

/-- Emitting events and clearing the delivery do not move the scheduler. -/
theorem rewind_emit (s : State) (es : List Event) : rewind (s.emit es) = (rewind s).emit es := by
  simp only [rewind, apply_ite (State.emit · es)]
  rfl

theorem rewind_deliveryTaken (s : State) : rewind s.deliveryTaken = (rewind s).deliveryTaken := by
  simp only [rewind, apply_ite State.deliveryTaken]
  rfl

/-- Step 3 reads the entry at the cursor and answers a next state, or faults beyond the list. -/
theorem issue_of_entry {s : State} {id : MsgId} (h : s.activeList[s.cursor]? = some id) :
    issue s = .next ((s.emit [issueEvent (build s.params s.ports id)]).advance) := by
  simp [issue, h]

theorem issue_next {s t : State} (h : issue s = .next t) :
    ∃ id, s.activeList[s.cursor]? = some id ∧
      t = (s.emit [issueEvent (build s.params s.ports id)]).advance := by
  unfold issue at h
  split at h
  · next id hid => exact ⟨id, hid, by simpa using h.symm⟩
  · cases h

/-- The send phase changes nothing, or issues one entry of the rewound scheduler. -/
theorem sendPhase_next {s t : State} (h : sendPhase s = .next t) :
    (s.ports.ready = false ∧ t = s) ∨
    (s.ports.ready = true ∧ ∃ id, (rewind s).activeList[(rewind s).cursor]? = some id ∧
      t = ((rewind s).emit [issueEvent (build s.params s.ports id)]).advance) := by
  unfold sendPhase at h
  split at h
  · next hr =>
    obtain ⟨id, hid, ht⟩ := issue_next h
    exact .inr ⟨hr, id, hid, by simpa using ht⟩
  · next hr => exact .inl ⟨by simpa using hr, by simpa using h.symm⟩

/-- The events of the receive phase. -/
def receiveEvents (s : State) : List Event :=
  .process :: (match s.ports.rsp with
    | none => []
    | some d => dispatch s.params d)

/-- The receive phase emits its events and leaves no delivery at the port; nothing else changes. -/
theorem receivePhase_eq (s : State) : receivePhase s = (s.emit (receiveEvents s)).deliveryTaken := by
  rcases s with ⟨p, ci, cr, rep, ini, cur, lc, ev, ⟨ready, rsp, sps, fl⟩, pend, ret⟩
  cases rsp <;> rfl

theorem thenState_next {o : Out} {f : State → State} {t : State} (h : thenState o f = .next t) :
    ∃ s, o = .next s ∧ t = f s := by
  cases o with
  | next s => exact ⟨s, rfl, by simpa [thenState] using h.symm⟩
  | fault r => cases h
  | refused r => cases h

/-- The response rule of a name emits its events and changes nothing else. -/
theorem exec_rspOf (n : MsgName) (frame : Frame) (s : State) :
    exec (Instr.rspOf n frame) s = .next (s.emit (respondNamed s.params n frame)) := by
  cases n <;> rfl

/-- Every event of a name's rule is a dispatch event. -/
theorem respondNamed_isDispatch (p : Config.Params) (n : MsgName) (frame : Frame) :
    ∀ e ∈ respondNamed p n frame, e.isDispatch = true := by
  cases n <;>
    simp [respondNamed, respondStatus, respondTSet, respondTsetCH2, respondSConfigSMemberIDcode, respondRBPflags,
      respondRelModLevel, respondCHPressure, respondDHWFlowRate, respondTboiler, respondTdhw, respondToutside,
      respondTret, respondTstorage, respondTcollector, respondTflowCH2, respondTdhw2, respondTexhaust,
      respondTdhwSetUBTdhwSetLB, respondMaxTSetUBMaxTSetLB, respondMaxTSet, respondBurnerStarts,
      respondCHPumpStarts, respondDHWPumpValveStarts, respondDHWBurnerStarts, respondBurnerOperationHours,
      respondCHPumpOperationHours, respondDHWPumpValveOperationHours, respondDHWBurnerOperationHours,
      publishFixedPoint, publishSigned16, publishUint16, publishPair, publishFlag, logEcho, raise,
      Event.isDispatch]

/-- A dispatch emits dispatch events only: no request, no `PROCESS`. -/
theorem dispatch_isDispatch (p : Config.Params) (d : Delivery) :
    ∀ e ∈ dispatch p d, e.isDispatch = true := by
  unfold dispatch respond
  split
  · split
    · exact respondNamed_isDispatch _ _ _
    · simp [respondUnexpected, raise, Event.isDispatch]
  · simp [raise, Event.isDispatch]

/-- The one event of step 3 is an issue event. -/
theorem issueEvent_isIssue (r : BuildResult) : (issueEvent r).isIssue = true := by
  cases r <;> rfl

/-- Everything exec can do: it returns a value and changes nothing else, or it emits dispatch events and changes
nothing else, or it is a lifecycle operation. -/
theorem exec_next {i : Instr} {s t : State} (h : exec i s = .next t) :
    (∃ r, t = s.returning r) ∨
    (∃ es, (∀ e ∈ es, e.isDispatch = true) ∧ t = s.emit es) ∨
    (i = .opStart ∧ s.lc = .constructed ∧ t = s.started) ∨
    (i = .opTick ∧ s.lc = .running ∧ tick s = .next t) ∨
    (i = .opTick ∧ s.lc = .stopped ∧ t = s) ∨
    (i = .opStop ∧ s.lc ≠ .stopped ∧ t = s.halted) ∨
    (i = .opStop ∧ s.lc = .stopped ∧ t = s) := by
  have respondCase : ∀ {es : List Event}, (∀ e ∈ es, e.isDispatch = true) →
      (Host.Outcome.next (s.emit es) : Out) = .next t →
      ∃ es, (∀ e ∈ es, e.isDispatch = true) ∧ t = s.emit es :=
    fun hes h => ⟨_, hes, by simpa using h.symm⟩
  cases i with
  | opStart =>
    simp only [exec, execOpStart] at h
    split at h
    · next hl => exact .inr (.inr (.inl ⟨rfl, hl, by simpa using h.symm⟩))
    · cases h
    · cases h
  | opTick =>
    simp only [exec, execOpTick] at h
    split at h
    · cases h
    · next hl => exact .inr (.inr (.inr (.inl ⟨rfl, hl, h⟩)))
    · next hl => exact .inr (.inr (.inr (.inr (.inl ⟨rfl, hl, by simpa using h.symm⟩))))
  | opStop =>
    simp only [exec, execOpStop] at h
    split at h
    · next hl => exact .inr (.inr (.inr (.inr (.inr (.inl ⟨rfl, by simp [hl], by simpa using h.symm⟩)))))
    · next hl => exact .inr (.inr (.inr (.inr (.inr (.inl ⟨rfl, by simp [hl], by simpa using h.symm⟩)))))
    · next hl => exact .inr (.inr (.inr (.inr (.inr (.inr ⟨rfl, hl, by simpa using h.symm⟩)))))
  | codecDecodeFlag frame i =>
    simp only [exec, execCodecDecodeFlag] at h
    split at h
    · exact .inl ⟨_, by simpa using h.symm⟩
    · cases h
  | rspStatus f => exact .inr (.inl (respondCase (respondNamed_isDispatch s.params .status f) h))
  | rspTSet f => exact .inr (.inl (respondCase (respondNamed_isDispatch s.params .tSet f) h))
  | rspTsetCH2 f => exact .inr (.inl (respondCase (respondNamed_isDispatch s.params .tsetCH2 f) h))
  | rspSConfigSMemberIDcode f =>
    exact .inr (.inl (respondCase (respondNamed_isDispatch s.params .sConfigSMemberIDcode f) h))
  | rspRBPflags f => exact .inr (.inl (respondCase (respondNamed_isDispatch s.params .rbpFlags f) h))
  | rspRelModLevel f => exact .inr (.inl (respondCase (respondNamed_isDispatch s.params .relModLevel f) h))
  | rspCHPressure f => exact .inr (.inl (respondCase (respondNamed_isDispatch s.params .chPressure f) h))
  | rspDHWFlowRate f => exact .inr (.inl (respondCase (respondNamed_isDispatch s.params .dhwFlowRate f) h))
  | rspTboiler f => exact .inr (.inl (respondCase (respondNamed_isDispatch s.params .tboiler f) h))
  | rspTdhw f => exact .inr (.inl (respondCase (respondNamed_isDispatch s.params .tdhw f) h))
  | rspToutside f => exact .inr (.inl (respondCase (respondNamed_isDispatch s.params .toutside f) h))
  | rspTret f => exact .inr (.inl (respondCase (respondNamed_isDispatch s.params .tret f) h))
  | rspTstorage f => exact .inr (.inl (respondCase (respondNamed_isDispatch s.params .tstorage f) h))
  | rspTcollector f => exact .inr (.inl (respondCase (respondNamed_isDispatch s.params .tcollector f) h))
  | rspTflowCH2 f => exact .inr (.inl (respondCase (respondNamed_isDispatch s.params .tflowCH2 f) h))
  | rspTdhw2 f => exact .inr (.inl (respondCase (respondNamed_isDispatch s.params .tdhw2 f) h))
  | rspTexhaust f => exact .inr (.inl (respondCase (respondNamed_isDispatch s.params .texhaust f) h))
  | rspTdhwSetUBTdhwSetLB f =>
    exact .inr (.inl (respondCase (respondNamed_isDispatch s.params .tdhwSetUBTdhwSetLB f) h))
  | rspMaxTSetUBMaxTSetLB f =>
    exact .inr (.inl (respondCase (respondNamed_isDispatch s.params .maxTSetUBMaxTSetLB f) h))
  | rspMaxTSet f => exact .inr (.inl (respondCase (respondNamed_isDispatch s.params .maxTSet f) h))
  | rspBurnerStarts f => exact .inr (.inl (respondCase (respondNamed_isDispatch s.params .burnerStarts f) h))
  | rspCHPumpStarts f => exact .inr (.inl (respondCase (respondNamed_isDispatch s.params .chPumpStarts f) h))
  | rspDHWPumpValveStarts f =>
    exact .inr (.inl (respondCase (respondNamed_isDispatch s.params .dhwPumpValveStarts f) h))
  | rspDHWBurnerStarts f => exact .inr (.inl (respondCase (respondNamed_isDispatch s.params .dhwBurnerStarts f) h))
  | rspBurnerOperationHours f =>
    exact .inr (.inl (respondCase (respondNamed_isDispatch s.params .burnerOperationHours f) h))
  | rspCHPumpOperationHours f =>
    exact .inr (.inl (respondCase (respondNamed_isDispatch s.params .chPumpOperationHours f) h))
  | rspDHWPumpValveOperationHours f =>
    exact .inr (.inl (respondCase (respondNamed_isDispatch s.params .dhwPumpValveOperationHours f) h))
  | rspDHWBurnerOperationHours f =>
    exact .inr (.inl (respondCase (respondNamed_isDispatch s.params .dhwBurnerOperationHours f) h))
  | rspUnexpected f =>
    exact .inr (.inl (respondCase (es := respondUnexpected f) (by simp [respondUnexpected, raise, Event.isDispatch]) h))
  | _ => exact .inl ⟨_, (Host.Outcome.next.inj h).symm⟩

/-- The response rule a frame selects emits what dispatching the frame, VALID, emits, and changes nothing else. -/
theorem exec_decodeResponse (s : State) (frame : Frame) :
    exec (decodeResponse s.params frame) s = .next (s.emit (dispatch s.params ⟨frame, .valid⟩)) := by
  show exec _ s = .next (s.emit (respond s.params frame))
  unfold decodeResponse respond
  cases responseName s.params (frameId frame) with
  | some n => exact exec_rspOf n frame s
  | none => rfl

end Sys2Proof.Machine
end

