-- ==== Sys2Proof/Laws/Codec.lean ====
section
/-! SUPPORT. What the codec functions compute, in terms of a frame's number. -/

namespace Sys2Proof.Machine

/-- Two's complement, read as the spec writes it. -/
theorem toInt_eq_signedOf {w : Nat} (x : BitVec w) (hw : 0 < w) : x.toInt = signedOf w x.toNat := by
  obtain ⟨k, rfl⟩ : ∃ k, w = k + 1 := ⟨w - 1, by omega⟩
  rw [BitVec.toInt_eq_toNat_cond, signedOf]
  have h : 2 ^ (k + 1) = 2 * 2 ^ k := by rw [Nat.pow_succ]; omega
  simp only [Nat.add_sub_cancel]
  by_cases hx : x.toNat < 2 ^ k
  · rw [if_pos (by omega), if_pos hx]
  · rw [if_neg (by omega), if_neg hx]
    push_cast
    rfl

theorem framePayload_toNat (frame : Frame) : (framePayload frame).toNat = frame.toNat % 2 ^ 16 := by
  simp [framePayload, BitVec.extractLsb'_toNat]

theorem frameId_toNat (frame : Frame) : (frameId frame).toNat = frame.toNat / 2 ^ 16 % 2 ^ 8 := by
  simp [frameId, BitVec.extractLsb'_toNat, Nat.shiftRight_eq_div_pow]

theorem decodeSigned16_eq (frame : Frame) : decodeSigned16 frame = signedOf 16 (frame.toNat % 2 ^ 16) := by
  rw [decodeSigned16, toInt_eq_signedOf _ (by decide), framePayload_toNat]

theorem decodeFixedPoint_eq (frame : Frame) :
    decodeFixedPoint frame = (signedOf 16 (frame.toNat % 2 ^ 16) : Rat) / 256 := by
  rw [decodeFixedPoint, Rat.mkRat_eq_div, ← decodeSigned16_eq]
  rfl

theorem decodeHighByteSigned_eq (frame : Frame) :
    decodeHighByteSigned frame = signedOf 8 (frame.toNat / 2 ^ 8 % 2 ^ 8) := by
  rw [decodeHighByteSigned, toInt_eq_signedOf _ (by decide), BitVec.extractLsb'_toNat, Nat.shiftRight_eq_div_pow]

theorem decodeLowByteSigned_eq (frame : Frame) : decodeLowByteSigned frame = signedOf 8 (frame.toNat % 2 ^ 8) := by
  rw [decodeLowByteSigned, toInt_eq_signedOf _ (by decide), BitVec.extractLsb'_toNat, Nat.shiftRight_zero]

theorem decodeUint16_eq (frame : Frame) : decodeUint16 frame = ((frame.toNat % 2 ^ 16 : Nat) : Int) := by
  rw [decodeUint16, framePayload_toNat]

theorem decodeFlag_eq (frame : Frame) (i : Nat) : decodeFlag frame i = bitSet frame i := by
  simp only [decodeFlag, bitSet, BitVec.getLsbD, Nat.testBit_eq_decide_div_mod_eq]
  by_cases h : frame.toNat / 2 ^ i % 2 = 1 <;> simp [h]

/-- `trunc` rounds toward zero. -/
theorem trunc_truncatesTo (q : Rat) : TruncatesTo q (trunc q) := by
  have hd : (0 : Rat) < q.den := by exact_mod_cast q.den_pos
  have hden : (0 : Int) < q.den := by exact_mod_cast q.den_pos
  have hq : q * q.den = q.num := Rat.mul_den_eq_num q
  have hdiv : (q.den : Int) * trunc q + q.num.tmod q.den = q.num := Int.mul_tdiv_add_tmod q.num q.den
  have hdivq : (q.den : Rat) * trunc q + (q.num.tmod q.den : Int) = q.num := by exact_mod_cast hdiv
  constructor
  · intro h0
    have hnum : 0 ≤ q.num := Rat.num_nonneg.mpr h0
    have h1 : (0 : Rat) ≤ (q.num.tmod q.den : Int) := by exact_mod_cast Int.tmod_nonneg _ hnum
    have h2 : ((q.num.tmod q.den : Int) : Rat) < q.den := by exact_mod_cast Int.tmod_lt_of_pos q.num hden
    constructor <;> nlinarith
  · intro h0
    have hnum : q.num ≤ 0 := Rat.num_nonpos.mpr h0
    have h1 : ((q.num.tmod q.den : Int) : Rat) ≤ 0 := by
      have := Int.tmod_nonneg q.den (by omega : 0 ≤ -q.num)
      rw [Int.neg_tmod] at this
      exact_mod_cast (by omega : q.num.tmod q.den ≤ 0)
    have h2 : -(q.den : Rat) < (q.num.tmod q.den : Int) := by
      have := Int.tmod_lt_of_pos (-q.num) hden
      rw [Int.neg_tmod] at this
      exact_mod_cast (by omega : -(q.den : Int) < q.num.tmod q.den)
    constructor <;> nlinarith

@[simp] theorem trunc_intCast (n : Int) : trunc (n : Rat) = n := by simp [trunc]

/-- Encoding inside the domain under WRAP. -/
theorem encodeFixedPoint_wrap {v : Binary32} {q : Rat} (hv : binary32Number v = .finite q)
    (hlo : -2147483648 < q * 256) (hhi : q * 256 < 2147483648) :
    encodeFixedPoint .wrap v = BitVec.ofInt 16 (trunc (q * 256)) := by
  simp only [encodeFixedPoint, hv]
  rw [if_pos (by norm_num; exact ⟨hlo, hhi⟩)]

end Sys2Proof.Machine
end

