-- ==== Sys2Proof/Laws/Request.lean ====
section
/-! SUPPORT. What frame assembly makes: the fields of `makeFrame` and its parity, and the bits of a frame as numbers. -/

namespace Sys2Proof.Machine

theorem bitSet_eq_getLsbD (f : Frame) (i : Nat) : bitSet f i = f.getLsbD i := by
  simp only [bitSet, BitVec.getLsbD, Nat.testBit_eq_decide_div_mod_eq]
  by_cases h : f.toNat / 2 ^ i % 2 = 1 <;> simp [h]

theorem ones_eq_popcountBelow (f : Frame) (n : Nat) :
    ((List.range n).filter (bitSet f)).length = popcountBelow f n := by
  induction n with
  | zero => rfl
  | succ n ih =>
    rw [List.range_succ, List.filter_append, List.length_append, ih, popcountBelow, ← bitSet_eq_getLsbD]
    cases h : bitSet f n <;> simp [h]

theorem popcountBelow_congr {f g : Frame} {n : Nat} (h : ∀ i, i < n → f.getLsbD i = g.getLsbD i) :
    popcountBelow f n = popcountBelow g n := by
  induction n with
  | zero => rfl
  | succ n ih =>
    rw [popcountBelow, popcountBelow, ih fun i hi => h i (by omega), h n (by omega)]

/-- The fields of a request frame, most significant first. -/
def assembled (parity write : Bool) (id : MsgId) (data : Payload) : Frame :=
  (BitVec.ofBool parity ++ (0#2 ++ (BitVec.ofBool write ++ (0#4 ++ (id ++ data)))) : BitVec 32)

theorem assembled_toNat (parity write : Bool) (id : MsgId) (data : Payload) :
    (assembled parity write id data).toNat =
      parity.toNat * 2 ^ 31 + write.toNat * 2 ^ 28 + id.toNat * 2 ^ 16 + data.toNat := by
  have hid := id.isLt
  have hd := data.isLt
  have hw : write.toNat ≤ 1 := Bool.toNat_le write
  have hor : ∀ a b n : Nat, b < 2 ^ n → a <<< n ||| b = a * 2 ^ n + b := fun a b n hb => by
    rw [← Nat.shiftLeft_add_eq_or_of_lt hb, Nat.shiftLeft_eq]
  simp only [assembled, BitVec.toNat_append, BitVec.toNat_ofBool]
  rw [hor _ data.toNat 16 hd, hor _ _ 24 (by simp; omega), hor _ _ 28 (by simp; omega),
    hor _ _ 29 (by simp; omega), hor _ _ 31 (by simp; omega)]
  simp
  omega

/-- The message type as the bit that distinguishes the two. -/
def isWrite (t : Config.MsgType) : Bool :=
  match t with
  | .readData => false
  | .writeData => true

theorem unparity_eq_assembled (t : Config.MsgType) (id : MsgId) (data : Payload) :
    typeBits t ||| (id.zeroExtend 32 <<< 16) ||| data.zeroExtend 32 = assembled false (isWrite t) id data := by
  apply BitVec.eq_of_toNat_eq
  rw [assembled_toNat]
  have hid := id.isLt
  have hd := data.isLt
  have hs : (id.zeroExtend 32 <<< 16 ||| data.zeroExtend 32 : BitVec 32).toNat = id.toNat * 2 ^ 16 + data.toNat := by
    rw [BitVec.toNat_or, BitVec.toNat_shiftLeft, BitVec.toNat_setWidth, BitVec.toNat_setWidth,
      Nat.mod_eq_of_lt (a := data.toNat) (by omega), Nat.mod_eq_of_lt (a := id.toNat) (by omega),
      Nat.mod_eq_of_lt (by rw [Nat.shiftLeft_eq]; omega), ← Nat.shiftLeft_add_eq_or_of_lt (by omega), Nat.shiftLeft_eq]
  rw [BitVec.or_assoc, BitVec.toNat_or, hs]
  cases t with
  | readData => simp [typeBits, isWrite]
  | writeData =>
    have : (typeBits .writeData).toNat = 1 <<< 28 := rfl
    rw [this, ← Nat.shiftLeft_add_eq_or_of_lt (by omega)]
    simp [isWrite]
    omega

theorem withParity_eq_assembled (b w : Bool) (id : MsgId) (data : Payload) :
    assembled false w id data ||| ((BitVec.ofBool b).zeroExtend 32 <<< 31) = assembled b w id data := by
  apply BitVec.eq_of_toNat_eq
  have h0 := assembled_toNat false w id data
  have hlt : (assembled false w id data).toNat < 2 ^ 31 := by
    have hid := id.isLt
    have hd := data.isLt
    have hw : w.toNat ≤ 1 := Bool.toNat_le w
    rw [h0]; simp; omega
  rw [assembled_toNat, BitVec.or_comm, BitVec.toNat_or]
  have hs : ((BitVec.ofBool b).zeroExtend 32 <<< 31 : BitVec 32).toNat = b.toNat <<< 31 := by
    cases b <;> rfl
  rw [hs, ← Nat.shiftLeft_add_eq_or_of_lt hlt, h0, Nat.shiftLeft_eq]
  simp; omega

/-- `makeFrame` is the concatenation of its fields, under the parity of the unparitied word. -/
theorem makeFrame_eq (p : Config.Params) (t : Config.MsgType) (id : MsgId) (data : Payload) :
    makeFrame p t id data =
      assembled (parityBit p.parity (assembled false (isWrite t) id data)) (isWrite t) id data := by
  simp only [makeFrame, unparity_eq_assembled, withParity_eq_assembled]

theorem assembled_low_bits (b c w : Bool) (id : MsgId) (data : Payload) (i : Nat) (hi : i < 31) :
    (assembled b w id data).getLsbD i = (assembled c w id data).getLsbD i := by
  have h : ∀ d : Bool, (assembled d w id data).getLsbD i =
      (0#2 ++ (BitVec.ofBool w ++ (0#4 ++ (id ++ data))) : BitVec 31).getLsbD i := fun d => by
    unfold assembled
    exact (BitVec.getLsbD_append).trans (if_pos hi)
  rw [h b, h c]

theorem assembled_top_bit (b w : Bool) (id : MsgId) (data : Payload) :
    (assembled b w id data).getLsbD 31 = b := by
  unfold assembled
  refine (BitVec.getLsbD_append).trans ((if_neg (by decide)).trans ?_)
  cases b <;> rfl

/-- `makeFrame` has the request layout. -/
theorem makeFrame_shape (p : Config.Params) (t : Config.MsgType) (id : MsgId) (data : Payload) :
    RequestShape p t id data (makeFrame p t id data) := by
  have hid := id.isLt
  have hd := data.isLt
  have hb : ∀ b : Bool, b.toNat ≤ 1 := Bool.toNat_le
  have hw : (isWrite t).toNat ≤ 1 := hb _
  rw [makeFrame_eq]
  have hnat := assembled_toNat (parityBit p.parity (assembled false (isWrite t) id data)) (isWrite t) id data
  have hp := hb (parityBit p.parity (assembled false (isWrite t) id data))
  refine ⟨by rw [hnat]; omega, by rw [hnat]; omega, by rw [hnat]; omega, ?_, ?_⟩
  · rw [hnat]
    cases t <;> simp only [isWrite, Bool.toNat_true, Bool.toNat_false] at * <;> omega
  · cases hpar : p.parity with
    | zero =>
      show bitSet _ 31 = false
      rw [bitSet_eq_getLsbD, assembled_top_bit]
      rfl
    | even =>
      show onesIn _ % 2 = 0
      rw [onesIn, ones_eq_popcountBelow, popcountBelow,
        popcountBelow_congr (assembled_low_bits _ false (isWrite t) id data), assembled_top_bit]
      simp only [parityBit]
      rcases Nat.mod_two_eq_zero_or_one (popcountBelow (assembled false (isWrite t) id data) 31) with h | h
      · simp [h]
      · simp [h]; omega

/-- A payload bit of a request frame is that bit of the payload. -/
theorem shape_bit {p : Config.Params} {t : Config.MsgType} {id : MsgId} {data : Payload} {f : Frame}
    (h : RequestShape p t id data f) {i : Nat} (hi : i < 16) : bitSet f i = data.getLsbD i := by
  rw [bitSet_eq_getLsbD, BitVec.getLsbD, BitVec.getLsbD, ← h.payload, Nat.testBit_mod_two_pow]
  simp [hi]

/-- The builder of the row an identifier selects returns what `build` returns. -/
theorem exec_requestInstr (s : State) (id : MsgId) :
    exec (requestInstr s.params id) s = .next (s.deliver (build s.params s.ports id)) := by
  unfold requestInstr build
  cases requestName s.params id with
  | some n => cases n <;> rfl
  | none => rfl

/-- A build does not read the response port. -/
theorem build_rsp (p : Config.Params) (ports : Ports) (d : Option Delivery) (id : MsgId) :
    build p { ports with rsp := d } id = build p ports id := rfl

end Sys2Proof.Machine
end

