-- ==== Sys2Proof/Laws/Identifiers.lean ====
section
/-! SUPPORT. The selection of a row by identifier, and what the decoder's parts answer. -/

namespace Sys2Proof.Machine

theorem mem_all (n : MsgName) : n ∈ MsgName.all := by cases n <;> decide

theorem mem_buildNames {p : Config.Params} {n : MsgName} :
    n ∈ buildNames p ↔ (n = .maxTSet → p.maxTSetReq = true) := by
  simp only [buildNames, List.mem_filter, mem_all, true_and, Bool.or_eq_true, bne_iff_ne]
  tauto

theorem requestName_some {p : Config.Params} {id : MsgId} {n : MsgName} (h : requestName p id = some n) :
    p.idMap.idOf n = id ∧ (n = .maxTSet → p.maxTSetReq = true) :=
  ⟨by simpa using List.find?_some h, mem_buildNames.mp (List.mem_of_find?_eq_some h)⟩

theorem requestName_none {p : Config.Params} {id : MsgId} :
    requestName p id = none ↔ ∀ n, (n = .maxTSet → p.maxTSetReq = true) → p.idMap.idOf n ≠ id := by
  simp [requestName, List.find?_eq_none, mem_buildNames]

theorem responseName_some {p : Config.Params} {id : MsgId} {n : MsgName} (h : responseName p id = some n) :
    p.idMap.idOf n = id := by
  simpa using List.find?_some h

theorem responseName_none {p : Config.Params} {id : MsgId} :
    responseName p id = none ↔ ∀ n, p.idMap.idOf n ≠ id := by
  simp [responseName, List.find?_eq_none, mem_all]

/-- A well-formed map gives no two names one number. -/
theorem idOf_injective {p : Config.Params} (h : p.wf) {m n : MsgName} (e : p.idMap.idOf m = p.idMap.idOf n) :
    m = n :=
  List.inj_on_of_nodup_map h.2 (mem_all m) (mem_all n) e

theorem requestName_idOf {p : Config.Params} (h : p.wf) {n : MsgName} (hn : n = .maxTSet → p.maxTSetReq = true) :
    requestName p (p.idMap.idOf n) = some n := by
  cases hr : requestName p (p.idMap.idOf n) with
  | none => exact absurd rfl (requestName_none.mp hr n hn)
  | some m => rw [idOf_injective h (requestName_some hr).1]

theorem responseName_idOf {p : Config.Params} (h : p.wf) (n : MsgName) :
    responseName p (p.idMap.idOf n) = some n := by
  cases hr : responseName p (p.idMap.idOf n) with
  | none => exact absurd rfl (responseName_none.mp hr n)
  | some m => rw [idOf_injective h (responseName_some hr)]

/-- The identifier field of an assembled request. -/
theorem frameId_assembled (b w : Bool) (id : MsgId) (data : Payload) : frameId (assembled b w id data) = id := by
  have hid := id.isLt
  have hd := data.isLt
  have hb := Bool.toNat_le b
  have hw := Bool.toNat_le w
  apply BitVec.eq_of_toNat_eq
  rw [frameId_toNat, assembled_toNat]
  omega

theorem requestMatch_eq (p : Config.Params) (n : MsgName) :
    requestMatch p n = assembled false (isWrite (requestType p n)) (p.idMap.idOf n) 0 := by
  rw [requestMatch, ← unparity_eq_assembled]
  simp

theorem identifierWord_eq (id : MsgId) : (id.zeroExtend 32 <<< 16 : Frame) = assembled false false id 0 := by
  have h := unparity_eq_assembled .readData id 0
  simp only [typeBits, isWrite] at h
  rw [← h]
  simp

/-- A request word keeps its row's fixed bits whatever parity, flags or setpoint it carries. -/
theorem assembled_masked (p : Config.Params) (n : MsgName) (b : Bool) (data : Payload)
    (hread : n ≠ .status → n ≠ .tSet → n ≠ .tsetCH2 → data = 0)
    (hstatus : n = .status → ∀ i, i < 8 ∨ 13 ≤ i → data.getLsbD i = false) :
    assembled b (isWrite (requestType p n)) (p.idMap.idOf n) data &&& requestMask n = requestMatch p n := by
  rw [requestMatch_eq]
  generalize isWrite _ = w
  generalize p.idMap.idOf n = id
  apply BitVec.eq_of_getLsbD_eq
  intro i hi
  have hhigh : 16 ≤ i →
      (assembled b w id data).getLsbD i = if i = 31 then b else (assembled false w id 0).getLsbD i := fun h16 => by
    simp only [assembled, BitVec.getLsbD_append]
    interval_cases i <;> simp
  have hlow : ∀ (c : Bool) (d : Payload), i < 16 → (assembled c w id d).getLsbD i = d.getLsbD i := fun c d h16 => by
    simp only [assembled, BitVec.getLsbD_append]
    interval_cases i <;> simp
  rw [BitVec.getLsbD_and]
  by_cases h16 : i < 16
  · rw [hlow _ _ h16, hlow _ _ h16]
    cases n
    case status =>
      have := hstatus rfl i
      simp only [requestMask]
      interval_cases i <;> simp_all
    case tSet => simp only [requestMask]; interval_cases i <;> simp
    case tsetCH2 => simp only [requestMask]; interval_cases i <;> simp
    all_goals rw [hread (by simp) (by simp) (by simp)]; simp
  · rw [hhigh (by omega)]
    split
    · next h => subst h; rw [assembled_top_bit]; cases n <;> simp [requestMask]
    · have : (requestMask n).getLsbD i = true := by
        cases n <;> simp only [requestMask] <;> interval_cases i <;> first | rfl | omega
      rw [this, Bool.and_true]

end Sys2Proof.Machine
end

