-- ==== Sys2Proof/Laws/Binary32.lean ====
section
/-! SUPPORT. Which numbers binary32 holds exactly, for the payload formats of a frame (00_scope.md R11). -/

namespace Sys2Proof.Machine

/-- A word with a normal exponent of at most 150 stands for its significand scaled by a power of two. -/
theorem binary32Number_normal (neg : Bool) (m e : Nat) (hm : 2 ^ 23 ≤ m) (hm2 : m < 2 ^ 24) (he : 1 ≤ e)
    (he2 : e ≤ 150) :
    binary32Number (BitVec.ofNat 32 (neg.toNat * 2 ^ 31 + e * 2 ^ 23 + (m - 2 ^ 23))) =
      .finite (mkRat (if neg then -(m : Int) else m) (2 ^ (150 - e))) := by
  have hlt : neg.toNat * 2 ^ 31 + e * 2 ^ 23 + (m - 2 ^ 23) < 2 ^ 32 := by
    have hb : neg.toNat ≤ 1 := Bool.toNat_le _
    omega
  have hneg : (BitVec.ofNat 32 (neg.toNat * 2 ^ 31 + e * 2 ^ 23 + (m - 2 ^ 23))).getLsbD 31 = neg := by
    rw [← bitSet_eq_getLsbD, bitSet, BitVec.toNat_ofNat, Nat.mod_eq_of_lt hlt]
    cases neg <;> simp <;> omega
  unfold binary32Number
  simp only [hneg, BitVec.toNat_ofNat, Nat.mod_eq_of_lt hlt]
  have h1 : (neg.toNat * 2 ^ 31 + e * 2 ^ 23 + (m - 2 ^ 23)) / 2 ^ 23 % 256 = e := by cases neg <;> simp <;> omega
  have h2 : (neg.toNat * 2 ^ 31 + e * 2 ^ 23 + (m - 2 ^ 23)) % 2 ^ 23 = m - 2 ^ 23 := by
    cases neg <;> simp <;> omega
  have h3 : m - 2 ^ 23 + 2 ^ 23 = m := by omega
  have h4 : e - 150 = 0 := by omega
  have h5 : ¬ e = 0 := by omega
  rw [h1, h2, if_neg (by omega)]
  simp only [if_neg h5, h3, h4]
  cases neg <;> simp

/-- Every integer of at most 16 magnitude bits, divided by a power of two up to 256, is a binary32 value. -/
theorem binary32_of_scaled (n : Int) (k : Nat) (hk : k ≤ 8) (h1 : -65536 < n) (h2 : n < 65536) :
    ∃ v, binary32Number v = .finite ((n : Rat) / 2 ^ k) := by
  by_cases h0 : n = 0
  · exact ⟨0, by subst h0; simp; decide +kernel⟩
  obtain ⟨neg, a, ha, hn⟩ : ∃ (neg : Bool) (a : Nat), 0 < a ∧ n = if neg then -(a : Int) else a := by
    rcases lt_or_gt_of_ne h0 with h | h
    · exact ⟨true, n.natAbs, by omega, by rw [if_pos rfl]; omega⟩
    · exact ⟨false, n.natAbs, by omega, by rw [if_neg (by simp)]; omega⟩
  have ha2 : a < 2 ^ 16 := by cases neg <;> simp at hn <;> omega
  have hl1 : 2 ^ a.log2 ≤ a := Nat.log2_self_le (by omega)
  have hl2 : a < 2 ^ (a.log2 + 1) := Nat.lt_log2_self
  have hl3 : a.log2 < 16 := by
    by_contra hc
    have : 2 ^ 16 ≤ 2 ^ a.log2 := Nat.pow_le_pow_right (by omega) (by omega)
    omega
  have hp : 2 ^ a.log2 * 2 ^ (23 - a.log2) = 2 ^ 23 := by rw [← pow_add]; congr 1; omega
  have hp2 : 2 ^ (a.log2 + 1) * 2 ^ (23 - a.log2) = 2 ^ 24 := by rw [← pow_add]; congr 1; omega
  have hv := binary32Number_normal neg (a * 2 ^ (23 - a.log2)) (127 + a.log2 - k)
    (by rw [← hp]; exact Nat.mul_le_mul_right _ hl1)
    (by rw [← hp2]; exact Nat.mul_lt_mul_of_pos_right hl2 (by positivity)) (by omega) (by omega)
  refine ⟨_, hv.trans ?_⟩
  congr 1
  rw [Rat.mkRat_eq_div, show 150 - (127 + a.log2 - k) = (23 - a.log2) + k by omega]
  subst hn
  cases neg <;> (simp; field_simp; ring)

end Sys2Proof.Machine
end

