-- ==== Sys2Proof/Laws/PerInstr.lean ====
section
/-! SUPPORT. The family RowMatch: under the default parameters the encoding of a well-formed instruction has the match
bits of its row of spec/opcode_table.json, whose match and mask are written out here. -/

namespace Sys2Proof.Laws.RowMatch

/-- Match and mask of an instruction's row, copied from the table. -/
def row (i : Instr) : Frame × Frame :=
  match i with
  | .reqStatus => (0x00000000, 0x7FFFE0FF)
  | .reqTSet => (0x10010000, 0x7FFF0000)
  | .reqTsetCH2 => (0x10080000, 0x7FFF0000)
  | .reqSConfigSMemberIDcode => (0x00030000, 0x7FFFFFFF)
  | .reqRBPflags => (0x00060000, 0x7FFFFFFF)
  | .reqRelModLevel => (0x00110000, 0x7FFFFFFF)
  | .reqCHPressure => (0x00120000, 0x7FFFFFFF)
  | .reqDHWFlowRate => (0x00130000, 0x7FFFFFFF)
  | .reqTboiler => (0x00190000, 0x7FFFFFFF)
  | .reqTdhw => (0x001A0000, 0x7FFFFFFF)
  | .reqToutside => (0x001B0000, 0x7FFFFFFF)
  | .reqTret => (0x001C0000, 0x7FFFFFFF)
  | .reqTstorage => (0x001D0000, 0x7FFFFFFF)
  | .reqTcollector => (0x001E0000, 0x7FFFFFFF)
  | .reqTflowCH2 => (0x001F0000, 0x7FFFFFFF)
  | .reqTdhw2 => (0x00200000, 0x7FFFFFFF)
  | .reqTexhaust => (0x00210000, 0x7FFFFFFF)
  | .reqTdhwSetUBTdhwSetLB => (0x00300000, 0x7FFFFFFF)
  | .reqMaxTSetUBMaxTSetLB => (0x00310000, 0x7FFFFFFF)
  | .reqMaxTSet => (0x00390000, 0x7FFFFFFF)
  | .reqBurnerStarts => (0x00740000, 0x7FFFFFFF)
  | .reqCHPumpStarts => (0x00750000, 0x7FFFFFFF)
  | .reqDHWPumpValveStarts => (0x00760000, 0x7FFFFFFF)
  | .reqDHWBurnerStarts => (0x00770000, 0x7FFFFFFF)
  | .reqBurnerOperationHours => (0x00780000, 0x7FFFFFFF)
  | .reqCHPumpOperationHours => (0x00790000, 0x7FFFFFFF)
  | .reqDHWPumpValveOperationHours => (0x007A0000, 0x7FFFFFFF)
  | .reqDHWBurnerOperationHours => (0x007B0000, 0x7FFFFFFF)
  | .reqUnknown _ => (0x00000000, 0x00000000)
  | .rspStatus _ => (0x00000000, 0x00FF0000)
  | .rspTSet _ => (0x00010000, 0x00FF0000)
  | .rspTsetCH2 _ => (0x00080000, 0x00FF0000)
  | .rspSConfigSMemberIDcode _ => (0x00030000, 0x00FF0000)
  | .rspRBPflags _ => (0x00060000, 0x00FF0000)
  | .rspRelModLevel _ => (0x00110000, 0x00FF0000)
  | .rspCHPressure _ => (0x00120000, 0x00FF0000)
  | .rspDHWFlowRate _ => (0x00130000, 0x00FF0000)
  | .rspTboiler _ => (0x00190000, 0x00FF0000)
  | .rspTdhw _ => (0x001A0000, 0x00FF0000)
  | .rspToutside _ => (0x001B0000, 0x00FF0000)
  | .rspTret _ => (0x001C0000, 0x00FF0000)
  | .rspTstorage _ => (0x001D0000, 0x00FF0000)
  | .rspTcollector _ => (0x001E0000, 0x00FF0000)
  | .rspTflowCH2 _ => (0x001F0000, 0x00FF0000)
  | .rspTdhw2 _ => (0x00200000, 0x00FF0000)
  | .rspTexhaust _ => (0x00210000, 0x00FF0000)
  | .rspTdhwSetUBTdhwSetLB _ => (0x00300000, 0x00FF0000)
  | .rspMaxTSetUBMaxTSetLB _ => (0x00310000, 0x00FF0000)
  | .rspMaxTSet _ => (0x00390000, 0x00FF0000)
  | .rspBurnerStarts _ => (0x00740000, 0x00FF0000)
  | .rspCHPumpStarts _ => (0x00750000, 0x00FF0000)
  | .rspDHWPumpValveStarts _ => (0x00760000, 0x00FF0000)
  | .rspDHWBurnerStarts _ => (0x00770000, 0x00FF0000)
  | .rspBurnerOperationHours _ => (0x00780000, 0x00FF0000)
  | .rspCHPumpOperationHours _ => (0x00790000, 0x00FF0000)
  | .rspDHWPumpValveOperationHours _ => (0x007A0000, 0x00FF0000)
  | .rspDHWBurnerOperationHours _ => (0x007B0000, 0x00FF0000)
  | .rspUnexpected _ => (0x00000000, 0x00000000)
  | .codecDecodeSigned16 _ => (0x00000000, 0x00000000)
  | .codecDecodeFixedPoint _ => (0x00000000, 0x00000000)
  | .codecDecodeHighByteSigned _ => (0x00000000, 0x00000000)
  | .codecDecodeLowByteSigned _ => (0x00000000, 0x00000000)
  | .codecDecodeUint16 _ => (0x00000000, 0x00000000)
  | .codecDecodeFlag _ _ => (0x00000000, 0x00000000)
  | .codecEncodeFixedPoint _ => (0x00000000, 0x00000000)
  | .opStart => (0x00000000, 0x00000000)
  | .opTick => (0x00000000, 0x00000000)
  | .opStop => (0x00000000, 0x00000000)

/-- The encoding of a well-formed instruction matches its row. -/
def Statement (i : Instr) : Prop :=
  i.wellFormed Config.defaults = true → (encode Config.defaults i).word &&& (row i).2 = (row i).1

theorem idMask (frame : Frame) : frame &&& 0x00FF0000 = (Machine.assembled false false (frameId frame) 0) := by
  rw [← Machine.identifierWord_eq]
  apply BitVec.eq_of_getLsbD_eq
  intro i hi
  simp only [frameId]
  interval_cases i <;> simp

theorem ofFrame {frame : Frame} {id : MsgId} {m : Frame} (h : (frameId frame == id) = true)
    (hm : Machine.assembled false false id 0 = m) : frame &&& 0x00FF0000 = m := by
  rw [idMask, beq_iff_eq.mp h, hm]

theorem reqStatus : Statement .reqStatus := fun _ => rfl
theorem reqTSet : Statement .reqTSet := fun _ => rfl
theorem reqTsetCH2 : Statement .reqTsetCH2 := fun _ => rfl
theorem reqSConfigSMemberIDcode : Statement .reqSConfigSMemberIDcode := fun _ => rfl
theorem reqRBPflags : Statement .reqRBPflags := fun _ => rfl
theorem reqRelModLevel : Statement .reqRelModLevel := fun _ => rfl
theorem reqCHPressure : Statement .reqCHPressure := fun _ => rfl
theorem reqDHWFlowRate : Statement .reqDHWFlowRate := fun _ => rfl
theorem reqTboiler : Statement .reqTboiler := fun _ => rfl
theorem reqTdhw : Statement .reqTdhw := fun _ => rfl
theorem reqToutside : Statement .reqToutside := fun _ => rfl
theorem reqTret : Statement .reqTret := fun _ => rfl
theorem reqTstorage : Statement .reqTstorage := fun _ => rfl
theorem reqTcollector : Statement .reqTcollector := fun _ => rfl
theorem reqTflowCH2 : Statement .reqTflowCH2 := fun _ => rfl
theorem reqTdhw2 : Statement .reqTdhw2 := fun _ => rfl
theorem reqTexhaust : Statement .reqTexhaust := fun _ => rfl
theorem reqTdhwSetUBTdhwSetLB : Statement .reqTdhwSetUBTdhwSetLB := fun _ => rfl
theorem reqMaxTSetUBMaxTSetLB : Statement .reqMaxTSetUBMaxTSetLB := fun _ => rfl
theorem reqMaxTSet : Statement .reqMaxTSet := fun _ => rfl
theorem reqBurnerStarts : Statement .reqBurnerStarts := fun _ => rfl
theorem reqCHPumpStarts : Statement .reqCHPumpStarts := fun _ => rfl
theorem reqDHWPumpValveStarts : Statement .reqDHWPumpValveStarts := fun _ => rfl
theorem reqDHWBurnerStarts : Statement .reqDHWBurnerStarts := fun _ => rfl
theorem reqBurnerOperationHours : Statement .reqBurnerOperationHours := fun _ => rfl
theorem reqCHPumpOperationHours : Statement .reqCHPumpOperationHours := fun _ => rfl
theorem reqDHWPumpValveOperationHours : Statement .reqDHWPumpValveOperationHours := fun _ => rfl
theorem reqDHWBurnerOperationHours : Statement .reqDHWBurnerOperationHours := fun _ => rfl
theorem reqUnknown (id : MsgId) : Statement (.reqUnknown id) := fun _ => BitVec.and_zero
theorem rspStatus (frame : Frame) : Statement (.rspStatus frame) := fun h => ofFrame h rfl
theorem rspTSet (frame : Frame) : Statement (.rspTSet frame) := fun h => ofFrame h rfl
theorem rspTsetCH2 (frame : Frame) : Statement (.rspTsetCH2 frame) := fun h => ofFrame h rfl
theorem rspSConfigSMemberIDcode (frame : Frame) : Statement (.rspSConfigSMemberIDcode frame) := fun h => ofFrame h rfl
theorem rspRBPflags (frame : Frame) : Statement (.rspRBPflags frame) := fun h => ofFrame h rfl
theorem rspRelModLevel (frame : Frame) : Statement (.rspRelModLevel frame) := fun h => ofFrame h rfl
theorem rspCHPressure (frame : Frame) : Statement (.rspCHPressure frame) := fun h => ofFrame h rfl
theorem rspDHWFlowRate (frame : Frame) : Statement (.rspDHWFlowRate frame) := fun h => ofFrame h rfl
theorem rspTboiler (frame : Frame) : Statement (.rspTboiler frame) := fun h => ofFrame h rfl
theorem rspTdhw (frame : Frame) : Statement (.rspTdhw frame) := fun h => ofFrame h rfl
theorem rspToutside (frame : Frame) : Statement (.rspToutside frame) := fun h => ofFrame h rfl
theorem rspTret (frame : Frame) : Statement (.rspTret frame) := fun h => ofFrame h rfl
theorem rspTstorage (frame : Frame) : Statement (.rspTstorage frame) := fun h => ofFrame h rfl
theorem rspTcollector (frame : Frame) : Statement (.rspTcollector frame) := fun h => ofFrame h rfl
theorem rspTflowCH2 (frame : Frame) : Statement (.rspTflowCH2 frame) := fun h => ofFrame h rfl
theorem rspTdhw2 (frame : Frame) : Statement (.rspTdhw2 frame) := fun h => ofFrame h rfl
theorem rspTexhaust (frame : Frame) : Statement (.rspTexhaust frame) := fun h => ofFrame h rfl
theorem rspTdhwSetUBTdhwSetLB (frame : Frame) : Statement (.rspTdhwSetUBTdhwSetLB frame) := fun h => ofFrame h rfl
theorem rspMaxTSetUBMaxTSetLB (frame : Frame) : Statement (.rspMaxTSetUBMaxTSetLB frame) := fun h => ofFrame h rfl
theorem rspMaxTSet (frame : Frame) : Statement (.rspMaxTSet frame) := fun h => ofFrame h rfl
theorem rspBurnerStarts (frame : Frame) : Statement (.rspBurnerStarts frame) := fun h => ofFrame h rfl
theorem rspCHPumpStarts (frame : Frame) : Statement (.rspCHPumpStarts frame) := fun h => ofFrame h rfl
theorem rspDHWPumpValveStarts (frame : Frame) : Statement (.rspDHWPumpValveStarts frame) := fun h => ofFrame h rfl
theorem rspDHWBurnerStarts (frame : Frame) : Statement (.rspDHWBurnerStarts frame) := fun h => ofFrame h rfl
theorem rspBurnerOperationHours (frame : Frame) : Statement (.rspBurnerOperationHours frame) := fun h => ofFrame h rfl
theorem rspCHPumpOperationHours (frame : Frame) : Statement (.rspCHPumpOperationHours frame) := fun h => ofFrame h rfl
theorem rspDHWPumpValveOperationHours (frame : Frame) : Statement (.rspDHWPumpValveOperationHours frame) := fun h => ofFrame h rfl
theorem rspDHWBurnerOperationHours (frame : Frame) : Statement (.rspDHWBurnerOperationHours frame) := fun h => ofFrame h rfl
theorem rspUnexpected (frame : Frame) : Statement (.rspUnexpected frame) := fun _ => BitVec.and_zero
theorem codecDecodeSigned16 (frame : Frame) : Statement (.codecDecodeSigned16 frame) := fun _ => BitVec.and_zero
theorem codecDecodeFixedPoint (frame : Frame) : Statement (.codecDecodeFixedPoint frame) := fun _ => BitVec.and_zero
theorem codecDecodeHighByteSigned (frame : Frame) : Statement (.codecDecodeHighByteSigned frame) := fun _ => BitVec.and_zero
theorem codecDecodeLowByteSigned (frame : Frame) : Statement (.codecDecodeLowByteSigned frame) := fun _ => BitVec.and_zero
theorem codecDecodeUint16 (frame : Frame) : Statement (.codecDecodeUint16 frame) := fun _ => BitVec.and_zero
theorem codecDecodeFlag (frame : Frame) (index : Nat) : Statement (.codecDecodeFlag frame index) := fun _ => BitVec.and_zero
theorem codecEncodeFixedPoint (v : Frame) : Statement (.codecEncodeFixedPoint v) := fun _ => BitVec.and_zero
theorem opStart : Statement .opStart := fun _ => rfl
theorem opTick : Statement .opTick := fun _ => rfl
theorem opStop : Statement .opStop := fun _ => rfl

end Sys2Proof.Laws.RowMatch
end

