-- ==== Sys2Proof/Laws/Scheduler.lean ====
section
/-! SUPPORT. A tick of a RUNNING block, said once: not ready it only receives; ready it also issues one entry. -/

namespace Sys2Proof.Machine

theorem exec_opTick_running {s : State} (h : s.lc = .running) : exec .opTick s = tick s := by
  simp [exec, execOpTick, h]

/-- The events of a tick, in the order `P_TICK_ORDER` gives its phases (43_scheduler.md R242). -/
def tickEvents (o : Config.TickOrder) (issued received : List Event) : List Event :=
  match o with
  | .sendThenProcess => issued ++ received
  | .processThenSend => received ++ issued

/-- A ready tick: the scheduler is rewound, one entry is issued, the cursor advances, a delivery is taken. -/
theorem tick_ready {s : State} (hr : s.ports.ready = true) :
    tick s = match (rewind s).activeList[(rewind s).cursor]? with
      | some id => .next ((rewind s).emit (tickEvents s.params.tickOrder
          [issueEvent (build s.params s.ports id)] (receiveEvents s))).advance.deliveryTaken
      | none => .fault .cursorOutOfRange := by
  unfold tick
  cases ho : s.params.tickOrder
  · simp only [sendPhase, hr, if_true, issue]
    cases h : (rewind s).activeList[(rewind s).cursor]? with
    | none => rfl
    | some id =>
      simp only [thenState, receivePhase_eq, tickEvents, rewind_params, rewind_ports]
      have e : ∀ es, receiveEvents (((rewind s).emit es).advance) = receiveEvents s := fun es => by
        simp [receiveEvents]
      rw [e]
      simp [State.emit, State.advance, State.deliveryTaken]
  · have h1 : (receivePhase s).ports.ready = true := by rw [receivePhase_eq]; exact hr
    simp only [sendPhase, h1, if_true, issue]
    rw [receivePhase_eq, rewind_deliveryTaken, rewind_emit]
    simp only [deliveryTaken_activeList, emit_activeList, deliveryTaken_cursor, emit_cursor]
    cases h : (rewind s).activeList[(rewind s).cursor]? with
    | none => rfl
    | some id =>
      simp only [tickEvents, deliveryTaken_params, emit_params, rewind_params]
      have e : build s.params ((rewind s).emit (receiveEvents s)).deliveryTaken.ports id =
          build s.params s.ports id := by
        simp only [deliveryTaken_ports, emit_ports, rewind_ports]; rfl
      rw [e]
      simp [State.emit, State.advance, State.deliveryTaken]

/-- A tick that reads not ready is its receive phase. -/
theorem tick_idle {s : State} (hr : s.ports.ready = false) : tick s = .next (receivePhase s) := by
  unfold tick
  cases h : s.params.tickOrder
  · simp [sendPhase, hr, thenState]
  · have : (receivePhase s).ports.ready = false := by rw [receivePhase_eq]; exact hr
    simp [sendPhase, this]

/-- A receive phase issues no schedule entry. -/
theorem receiveEvents_not_issue (s : State) : (receiveEvents s).filter Event.isIssue = [] := by
  rw [List.filter_eq_nil_iff]
  intro e he
  simp only [receiveEvents, List.mem_cons] at he
  rcases he with rfl | he
  · simp [Event.isIssue]
  cases hr : s.ports.rsp with
  | none => simp [hr] at he
  | some d =>
    rw [hr] at he
    have := dispatch_isDispatch _ _ e he
    cases e <;> simp_all [Event.isDispatch, Event.isIssue]
    split at this <;> simp_all

/-- A receive phase sends no frame. -/
theorem receiveEvents_not_tx (s : State) : (receiveEvents s).filter Event.isTx = [] := by
  have h := receiveEvents_not_issue s
  rw [List.filter_eq_nil_iff] at h ⊢
  intro e he
  have := h e he
  cases e <;> simp_all [Event.isTx, Event.isIssue]

/-- Under the invariant the rewound cursor of a RUNNING block stands at an entry (10_state.md R27). -/
theorem entry_of_inv {s : State} (h : s.Inv) (hl : s.lc = .running) :
    ∃ id, (rewind s).activeList[(rewind s).cursor]? = some id := by
  have hrep : 1 ≤ s.rep.length := by rw [h.rep_effective hl]; exact effectiveRep_length_pos s
  have hc := h.cursor_le
  rcases rewind_cases s with ⟨h1, h2, h3⟩ | ⟨h1, h2, h3⟩ | ⟨h2, h3⟩ <;> rw [h3]
  · simp only [enterRepeating_activeList, enterRepeating_cursor]
    exact ⟨_, List.getElem?_eq_getElem (by omega)⟩
  · simp only [wrapCursor_activeList, wrapCursor_cursor, activeList_of_repeating h1]
    exact ⟨_, List.getElem?_eq_getElem (by omega)⟩
  · exact ⟨_, List.getElem?_eq_getElem (by omega)⟩

/-- A response rule run within the receive phase is a TICK that reads not ready and is delivered the frame. -/
theorem withinReceivePhase_eq_tick {s : State} {frame : Frame} (hready : s.ports.ready = false)
    (hrsp : s.ports.rsp = some ⟨frame, .valid⟩) :
    withinReceivePhase (exec (decodeResponse s.params frame)) s = exec .opTick s := by
  cases hl : s.lc with
  | constructed => simp [withinReceivePhase, exec, execOpTick, hl]
  | stopped => simp [withinReceivePhase, exec, execOpTick, hl]
  | running =>
    have h := exec_decodeResponse (s.emit [.process]).deliveryTaken frame
    simp only [deliveryTaken_params, emit_params] at h
    rw [exec_opTick_running hl, tick_idle hready, receivePhase_eq]
    simp only [withinReceivePhase, hl, h, receiveEvents, hrsp]
    simp [State.emit, State.deliveryTaken]

/-- What stands at the ports of a step. -/
theorem ports_of_response {c : Presented} (h : c.command.port = .response) :
    c.ports = { c.inputs with ready := false, rsp := some ⟨c.command.word, .valid⟩ } := by
  simp [Presented.ports, h]

theorem ports_of_not_response {c : Presented} (h : c.command.port ≠ .response) : c.ports = c.inputs := by
  unfold Presented.ports
  split
  · contradiction
  all_goals rfl

/-- Everything a step that goes on can do: it idles; it is exec of the decoded instruction at the presented port
values; or, for a frame at the response port, it is a TICK that reads not ready and is delivered the frame. -/
theorem step_next {s t : State} (h : step s = .next t) :
    (s.pending = [] ∧ t = s) ∨
    ∃ c rest, s.pending = c :: rest ∧
      ((c.command.port ≠ .response ∧ ∃ i, decode s.params c.command = .ok i ∧
          exec i { s with pending := rest, ports := c.inputs } = .next t) ∨
        (c.command.port = .response ∧ exec .opTick { s with
          pending := rest,
          ports := { c.inputs with ready := false, rsp := some ⟨c.command.word, .valid⟩ } } = .next t)) := by
  unfold step State.take at h
  cases hp : s.pending with
  | nil =>
    rw [hp] at h
    exact .inl ⟨rfl, by simpa using h.symm⟩
  | cons c rest =>
    rw [hp] at h
    refine .inr ⟨c, rest, rfl, ?_⟩
    by_cases hport : c.command.port = .response
    · refine .inr ⟨hport, ?_⟩
      have hd : decode s.params c.command = .ok (decodeResponse s.params c.command.word) := by simp [decode, hport]
      simp only [hd, if_pos hport, ports_of_response hport] at h
      rw [← h]
      exact (withinReceivePhase_eq_tick rfl rfl).symm
    · refine .inl ⟨hport, ?_⟩
      simp only [if_neg hport, ports_of_not_response hport] at h
      split at h
      · next i hi => exact ⟨i, hi, h⟩
      · cases h

end Sys2Proof.Machine
end

