-- ==== Sys2Proof/Tests/Slice0.lean ====
section
/-! SUPPORT. The model's own tests, each about one decode or one step. Expected values are those of the spec: its
opcode table and the vectors of 95_test_vectors.md (section named at each test). The `witness_` theorems show, for each
statement with hypotheses, a concrete state and operands that meet them. -/

namespace Sys2Proof.Tests
open Sys2Proof Sys2Proof.Machine

-- One theorem after the other: the threads of a hundred theorems at once do not fit the memory of the check.
set_option Elab.async false

/-! ### Helpers -/

/-- The default parameters with a concrete `P_LIST_MAX`. -/
def params4 : Config.Params := { Config.defaults with listMax := 4 }

/-- A RUNNING block at a point of its schedule. -/
def runningAt (init rep : List MsgId) (phase : Bool) (cursor : Nat) (ports : Ports) : State :=
  { State.construct params4 init rep with
    rep := rep, initializing := phase, cursor := cursor, lc := .running, ports := ports }

/-- Ports that read ready, with a delivery or none. -/
def readyPorts (rsp : Option Delivery) : Ports := { Ports.idle with ready := true, rsp := rsp }

/-- Ports that read not ready, with a delivery or none. -/
def busyPorts (rsp : Option Delivery) : Ports := { Ports.idle with rsp := rsp }

/-- Ports with one setpoint answer. -/
def setpointPorts (id : MsgId) (v : Binary32) : Ports := { Ports.idle with setpoints := [(id, v)] }

/-- Ports with the five flags, in the order CH, DHW, cooling, OTC, CH2. -/
def flagPorts (a b c d e : Option Bool) : Ports := { Ports.idle with flags := ⟨a, b, c, d, e⟩ }

/-- A constructed block with given ports. -/
def withPorts (p : Config.Params) (ports : Ports) : State := { State.construct p [] [] with ports := ports }

/-- The constructed block the combinational tests use. -/
def plain : State := State.construct params4 [] []

def nextOf (o : Out) : Option State :=
  match o with
  | .next s => some s
  | _ => none

def refusalOf (o : Out) : Option Refusal :=
  match o with
  | .refused r => some r
  | _ => none

def eventsOf (o : Out) : Option (List Event) := (nextOf o).map State.events

def returnedOf (o : Out) : Option Returned := (nextOf o).map State.returned

def positionOf (o : Out) : Option (Bool × Nat) := (nextOf o).map fun s => (s.initializing, s.cursor)

/-- Every word of a table decodes, at its port, to its instruction. -/
def allDecode (port : Port) (rows : List (BitVec 32 × Instr)) : Bool :=
  rows.all fun r => decide ((decode params4 ⟨port, r.1, 0⟩).toOption = some r.2)

/-- Every instruction of a table returns its value, run once on the plain block. -/
def allReturn (rows : List (Instr × Returned)) : Bool :=
  rows.all fun r => decide (returnedOf (exec r.1 plain) = some r.2)

/-- Every instruction of a table emits its events, run once on the plain block. -/
def allEmit (rows : List (Instr × List Event)) : Bool :=
  rows.all fun r => decide (eventsOf (exec r.1 plain) = some r.2)

/-- Boolean publishes of kinds in order. -/
def flags (kinds : List BinaryKind) (values : List Bool) : List Event := List.zipWith Event.pubB kinds values

def statusKinds : List BinaryKind :=
  [.fault, .chActive, .dhwActive, .flameOn, .coolingActive, .ch2Active, .diagnostic]

def configKinds : List BinaryKind :=
  [.dhwPresent, .controlType, .coolingConfig, .dhwConfig, .masterLowOffPumpControl, .ch2Present]

def remoteKinds : List BinaryKind :=
  [.dhwSetpointTransferEnable, .maxChSetpointTransferEnable, .dhwSetpointRw, .maxChSetpointRw]

/-! ### WellFormed refuses an ill-formed term of each kind -/

theorem test_wf_response_of_another_identifier : (Instr.rspTboiler 0xC01A3100).wellFormed params4 = false := by decide
theorem test_wf_unexpected_with_a_known_identifier :
    (Instr.rspUnexpected 0xC0193C80).wellFormed params4 = false := by decide
theorem test_wf_unknown_in_build_set : (Instr.reqUnknown 25).wellFormed params4 = false := by decide
theorem test_wf_max_tset_without_its_parameter :
    Instr.reqMaxTSet.wellFormed { params4 with maxTSetReq := false } = false := by decide
theorem test_wf_flag_index_32 : (Instr.codecDecodeFlag 0 32).wellFormed params4 = false := by decide
theorem test_wf_accepts :
    (Instr.rspTboiler 0xC0193C80).wellFormed params4 = true ∧
    (Instr.rspUnexpected 0x40380000).wellFormed params4 = true ∧
    (Instr.reqUnknown 56).wellFormed params4 = true ∧ Instr.reqMaxTSet.wellFormed params4 = true ∧
    (Instr.codecDecodeFlag 0 31).wellFormed params4 = true := by decide
theorem test_default_parameters_are_wf : Config.defaults.wf := ⟨by simp [Config.defaults], by decide⟩

/-! ### Decoding words written out bit by bit: parity, 00, write, 0000, identifier, payload (30_encoding.md R70) -/

/-- REQ rows of the opcode table, first half. -/
theorem test_decode_requests : allDecode .request [
    (0b10000000000000000001111100000000, .reqStatus),
    (0b00010000000000010011110000000000, .reqTSet),
    (0b10010000000010000010110110000000, .reqTsetCH2),
    (0b00000000000000110000000000000000, .reqSConfigSMemberIDcode),
    (0b00000000000001100000000000000000, .reqRBPflags),
    (0b00000000000100010000000000000000, .reqRelModLevel),
    (0b00000000000100100000000000000000, .reqCHPressure),
    (0b10000000000100110000000000000000, .reqDHWFlowRate),
    (0b10000000000110010000000000000000, .reqTboiler),
    (0b10000000000110100000000000000000, .reqTdhw),
    (0b00000000000110110000000000000000, .reqToutside),
    (0b10000000000111000000000000000000, .reqTret),
    (0b00000000000111010000000000000000, .reqTstorage),
    (0b00000000000111100000000000000000, .reqTcollector),
    (0b10000000000111110000000000000000, .reqTflowCH2),
    (0b10000000001000000000000000000000, .reqTdhw2),
    (0b00000000001000010000000000000000, .reqTexhaust)] = true := by decide +kernel

/-- REQ rows of the opcode table, second half. -/
theorem test_decode_counter_and_unknown_requests : allDecode .request [
    (0b00000000001100000000000000000000, .reqTdhwSetUBTdhwSetLB),
    (0b10000000001100010000000000000000, .reqMaxTSetUBMaxTSetLB),
    (0b00000000001110010000000000000000, .reqMaxTSet),
    (0b00000000011101000000000000000000, .reqBurnerStarts),
    (0b10000000011101010000000000000000, .reqCHPumpStarts),
    (0b10000000011101100000000000000000, .reqDHWPumpValveStarts),
    (0b00000000011101110000000000000000, .reqDHWBurnerStarts),
    (0b00000000011110000000000000000000, .reqBurnerOperationHours),
    (0b10000000011110010000000000000000, .reqCHPumpOperationHours),
    (0b10000000011110100000000000000000, .reqDHWPumpValveOperationHours),
    (0b00000000011110110000000000000000, .reqDHWBurnerOperationHours),
    (0b00000000001110000000000000000000, .reqUnknown 56),
    (0b10000000111111110000000000000000, .reqUnknown 255)] = true := by decide +kernel

/-- A request word with another type, a payload on a read, or a flag bit of Status outside 8 to 12 is rejected by
name (30_encoding.md R85). -/
theorem test_decode_rejects_request_words :
    (decode params4 ⟨.request, 0b00100000000110010000000000000000, 0⟩).toOption = none ∧
    (decode params4 ⟨.request, 0b00000000000110010000000000000001, 0⟩).toOption = none ∧
    (decode params4 ⟨.request, 0b00000000000000000010000000000000, 0⟩).toOption = none := by decide

/-- RSP rows of the opcode table, first half (95_test_vectors.md 2.5). -/
theorem test_decode_responses : allDecode .response [
    (0b11000000000000000000000000000011, .rspStatus 0xC0000003),
    (0b11010000000000010011110000000000, .rspTSet 0xD0013C00),
    (0b01010000000010000010110110000000, .rspTsetCH2 0x50082D80),
    (0b11000000000000110000000000100001, .rspSConfigSMemberIDcode 0xC0030021),
    (0b01000000000001100000001100000001, .rspRBPflags 0x40060301),
    (0b11000000000100010100101100000000, .rspRelModLevel 0xC0114B00),
    (0b11000000000100100000000110000000, .rspCHPressure 0xC0120180),
    (0b11000000000100110000110001000000, .rspDHWFlowRate 0xC0130C40),
    (0b11000000000110010011110010000000, .rspTboiler 0xC0193C80),
    (0b11000000000110100011000100000000, .rspTdhw 0xC01A3100),
    (0b11000000000110111111101011000000, .rspToutside 0xC01BFAC0),
    (0b11000000000111000010110101000000, .rspTret 0xC01C2D40),
    (0b01000000000111010011011100000000, .rspTstorage 0x401D3700),
    (0b11000000000111100000000001010000, .rspTcollector 0xC01E0050)] = true := by decide +kernel

/-- RSP rows of the opcode table, second half (95_test_vectors.md 2.5). -/
theorem test_decode_counter_and_unexpected_responses : allDecode .response [
    (0b01000000000111110010100000000000, .rspTflowCH2 0x401F2800),
    (0b11000000001000000011001000000000, .rspTdhw2 0xC0203200),
    (0b01000000001000011111111100111000, .rspTexhaust 0x4021FF38),
    (0b11000000001100000011110000101000, .rspTdhwSetUBTdhwSetLB 0xC0303C28),
    (0b01000000001100010101101000010100, .rspMaxTSetUBMaxTSetLB 0x40315A14),
    (0b11000000001110010101000000000000, .rspMaxTSet 0xC0395000),
    (0b01000000011101000001001000110100, .rspBurnerStarts 0x40741234),
    (0b01000000011101010000000000000000, .rspCHPumpStarts 0x40750000),
    (0b11000000011101101000000000000000, .rspDHWPumpValveStarts 0xC0768000),
    (0b11000000011101110000000011111111, .rspDHWBurnerStarts 0xC07700FF),
    (0b11000000011110001111111111111111, .rspBurnerOperationHours 0xC078FFFF),
    (0b01000000011110010000101000000000, .rspCHPumpOperationHours 0x40790A00),
    (0b11000000011110100000000000000001, .rspDHWPumpValveOperationHours 0xC07A0001),
    (0b01000000011110110111111111111111, .rspDHWBurnerOperationHours 0x407B7FFF),
    (0b01000000001110000000000000000000, .rspUnexpected 0x40380000),
    (0b00000000111111110000000000000000, .rspUnexpected 0x00FF0000)] = true := by decide +kernel

/-- CODEC and OP rows: the port names the function or the operation. -/
theorem test_decode_functions_and_operations :
    allDecode (.codec .decodeSigned16) [(0x4021FF38, .codecDecodeSigned16 0x4021FF38)] = true ∧
    allDecode (.codec .decodeFixedPoint) [(0xC0193C80, .codecDecodeFixedPoint 0xC0193C80)] = true ∧
    allDecode (.codec .decodeHighByteSigned) [(0xC0303C28, .codecDecodeHighByteSigned 0xC0303C28)] = true ∧
    allDecode (.codec .decodeLowByteSigned) [(0xC0303C28, .codecDecodeLowByteSigned 0xC0303C28)] = true ∧
    allDecode (.codec .decodeUint16) [(0x40741234, .codecDecodeUint16 0x40741234)] = true ∧
    (decode params4 ⟨.codec .decodeFlag, 0x40000023, 31⟩).toOption = some (.codecDecodeFlag 0x40000023 31) ∧
    (decode params4 ⟨.codec .decodeFlag, 0x40000023, 32⟩).toOption = none ∧
    allDecode (.codec .encodeFixedPoint) [(0x42700000, .codecEncodeFixedPoint 0x42700000)] = true ∧
    allDecode (.lifecycle .start) [(0, .opStart)] = true ∧ allDecode (.lifecycle .tick) [(0, .opTick)] = true ∧
    allDecode (.lifecycle .stop) [(0, .opStop)] = true := by decide

/-- Table words as the host numbers them: a 32-bit request word, and a 24-bit response word. -/
theorem test_decode_table_words :
    decodeTableWord 32 0x80190000 = some .reqTboiler ∧ decodeTableWord 32 0x10010000 = some .reqTSet ∧
    decodeTableWord 24 0x00190000 = some (.rspTboiler 0x00190000) := by decide

/-! ### The Frame Codec (95_test_vectors.md 2.1 and 2.2) -/

/-- decode_signed16, the signed bytes and decode_uint16. -/
theorem test_codec_decode_integers : allReturn [
    (.codecDecodeSigned16 0x00007FFF, .int 32767),
    (.codecDecodeSigned16 0x00008000, .int (-32768)),
    (.codecDecodeSigned16 0xFFFFFFFF, .int (-1)),
    (.codecDecodeSigned16 0x4021FF38, .int (-200)),
    (.codecDecodeHighByteSigned 0x00008000, .int (-128)),
    (.codecDecodeHighByteSigned 0x00007FFF, .int 127),
    (.codecDecodeHighByteSigned 0xC0303C28, .int 60),
    (.codecDecodeLowByteSigned 0x00000080, .int (-128)),
    (.codecDecodeLowByteSigned 0x0000FF7F, .int 127),
    (.codecDecodeLowByteSigned 0xC0303C28, .int 40),
    (.codecDecodeUint16 0x0000FFFF, .int 65535),
    (.codecDecodeUint16 0x00008000, .int 32768),
    (.codecDecodeUint16 0xFFFF0000, .int 0)] = true := by decide +kernel

/-- decode_fixed_point and decode_flag. -/
theorem test_codec_decode_fixed_point_and_flag : allReturn [
    (.codecDecodeFixedPoint 0x00000001, .rational (1 / 256)),
    (.codecDecodeFixedPoint 0x00007FFF, .rational (32767 / 256)),
    (.codecDecodeFixedPoint 0x00008000, .rational (-128)),
    (.codecDecodeFixedPoint 0x0000FFFF, .rational (-1 / 256)),
    (.codecDecodeFixedPoint 0xC0193C80, .rational (121 / 2)),
    (.codecDecodeFixedPoint 0x0000FAC0, .rational (-21 / 4)),
    (.codecDecodeFlag 0x40000020 5, .bool true),
    (.codecDecodeFlag 0xFFFFFFDF 5, .bool false),
    (.codecDecodeFlag 0x80000000 31, .bool true),
    (.codecDecodeFlag 0x00000000 0, .bool false)] = true := by decide +kernel

theorem test_codec_flag_index_refused :
    refusalOf (exec (.codecDecodeFlag 0 32) plain) = some .flagIndexOutOfRange := by decide

/-- encode_fixed_point under WRAP. -/
theorem test_codec_encode_wrap : allReturn [
    (.codecEncodeFixedPoint 0x00000000, .payload 0x0000),
    (.codecEncodeFixedPoint 0x80000000, .payload 0x0000),
    (.codecEncodeFixedPoint 0x3B800000, .payload 0x0001),
    (.codecEncodeFixedPoint 0x3A83126F, .payload 0x0000),
    (.codecEncodeFixedPoint 0x42700106, .payload 0x3C00),
    (.codecEncodeFixedPoint 0xBA83126F, .payload 0x0000),
    (.codecEncodeFixedPoint 0x42360000, .payload 0x2D80),
    (.codecEncodeFixedPoint 0x42C80000, .payload 0x6400),
    (.codecEncodeFixedPoint 0xC0A80000, .payload 0xFAC0),
    (.codecEncodeFixedPoint 0x42FFFE00, .payload 0x7FFF),
    (.codecEncodeFixedPoint 0xC3000000, .payload 0x8000),
    (.codecEncodeFixedPoint 0x43000000, .payload 0x8000),
    (.codecEncodeFixedPoint 0x43480000, .payload 0xC800),
    (.codecEncodeFixedPoint 0xC3010000, .payload 0x7F00),
    (.codecEncodeFixedPoint 0x437FFF00, .payload 0xFFFF),
    (.codecEncodeFixedPoint 0x43800000, .payload 0x0000),
    (.codecEncodeFixedPoint 0x46FFFF00, .payload 0xFF80),
    (.codecEncodeFixedPoint 0x4AFFFFFE, .payload 0xFF00)] = true := by decide +kernel

/-- encode_fixed_point under CLAMP_0_100. -/
theorem test_codec_encode_clamp : ([
      (0x00000000, 0x0000),
      (0x80000000, 0x0000),
      (0x3B800000, 0x0001),
      (0x3A83126F, 0x0000),
      (0x42700106, 0x3C00),
      (0xBA83126F, 0x0000),
      (0x42360000, 0x2D80),
      (0x42C80000, 0x6400),
      (0xC0A80000, 0x0000),
      (0x42FFFE00, 0x6400),
      (0xC3000000, 0x0000),
      (0x43000000, 0x6400),
      (0x43480000, 0x6400),
      (0xC3010000, 0x0000),
      (0x437FFF00, 0x6400),
      (0x43800000, 0x6400),
      (0x46FFFF00, 0x6400),
      (0x4AFFFFFE, 0x6400),
      (0xCB000000, 0x0000),
      (0x7F800000, 0x6400)] : List (Binary32 × Payload)).all (fun r =>
        decide (encodeFixedPoint .clamp0to100 r.1 = r.2)) = true := by decide +kernel

/-- Outside the domain the result is the draw, whatever it is: -8388608.0, NaN and an infinity under WRAP, NaN under
the clamp. -/
theorem test_codec_encode_draws :
    encodeFixedPoint .wrap 0xCB000000 = Config.encOutOfRange (.finite (-8388608)) ∧
    encodeFixedPoint .wrap 0x7FC00000 = Config.encOutOfRange .nan ∧
    encodeFixedPoint .wrap 0x7F800000 = Config.encOutOfRange (.infinity false) ∧
    encodeFixedPoint .clamp0to100 0x7FC00000 = Config.encOutOfRange .nan := by
  refine ⟨?_, rfl, rfl, rfl⟩
  have h : binary32Number 0xCB000000 = .finite (-8388608) := by decide +kernel
  simp only [encodeFixedPoint, h]
  exact if_neg (by norm_num)

/-- Two NaNs of different sign and payload encode alike (40_codec.md R114). -/
theorem test_codec_encode_nan_payload :
    encodeFixedPoint .wrap 0x7FC00000 = encodeFixedPoint .wrap 0xFFC12345 ∧
    encodeFixedPoint .clamp0to100 0x7FC00000 = encodeFixedPoint .clamp0to100 0x7F800001 := by
  have h : binary32Number 0x7FC00000 = .nan ∧ binary32Number 0xFFC12345 = .nan ∧
      binary32Number 0x7F800001 = .nan := by decide +kernel
  simp only [encodeFixedPoint, h, and_self]

/-- binary32 words and their values. -/
theorem test_binary32_values :
    binary32Number 0x3F800000 = .finite 1 ∧ binary32Number 0xC0A80000 = .finite (-21 / 4) ∧
    binary32Number 0x80000000 = .finite 0 ∧ binary32Number 0x00000001 = .finite (1 / 2 ^ 149) ∧
    binary32Number 0x7F7FFFFF = .finite ((2 ^ 24 - 1) * 2 ^ 104) := by decide +kernel

/-! ### The Request Builder (95_test_vectors.md 2.3 and 2.4) -/

/-- The read requests under EVEN parity. -/
theorem test_build_read_requests : allReturn [
    (.reqSConfigSMemberIDcode, .built 0x00030000),
    (.reqRBPflags, .built 0x00060000),
    (.reqRelModLevel, .built 0x00110000),
    (.reqCHPressure, .built 0x00120000),
    (.reqDHWFlowRate, .built 0x80130000),
    (.reqTboiler, .built 0x80190000),
    (.reqTdhw, .built 0x801A0000),
    (.reqToutside, .built 0x001B0000),
    (.reqTret, .built 0x801C0000),
    (.reqTstorage, .built 0x001D0000),
    (.reqTcollector, .built 0x001E0000),
    (.reqTflowCH2, .built 0x801F0000),
    (.reqTdhw2, .built 0x80200000),
    (.reqTexhaust, .built 0x00210000),
    (.reqTdhwSetUBTdhwSetLB, .built 0x00300000),
    (.reqMaxTSetUBMaxTSetLB, .built 0x80310000),
    (.reqMaxTSet, .built 0x00390000),
    (.reqBurnerStarts, .built 0x00740000),
    (.reqCHPumpStarts, .built 0x80750000),
    (.reqDHWPumpValveStarts, .built 0x80760000),
    (.reqDHWBurnerStarts, .built 0x00770000),
    (.reqBurnerOperationHours, .built 0x00780000),
    (.reqCHPumpOperationHours, .built 0x80790000),
    (.reqDHWPumpValveOperationHours, .built 0x807A0000),
    (.reqDHWBurnerOperationHours, .built 0x007B0000)] = true := by decide +kernel

/-- Under ZERO parity bit 31 stays clear. -/
theorem test_build_zero_parity :
    returnedOf (exec .reqTboiler (withPorts { params4 with parity := .zero } Ports.idle)) = some (.built 0x00190000) ∧
    returnedOf (exec .reqTSet (withPorts { params4 with parity := .zero } (setpointPorts 1 0x43480000))) =
      some (.built 0x1001C800) := by decide +kernel

/-- Status requests for sets of present flags; present(false) is as absent. -/
theorem test_build_status :
    returnedOf (exec .reqStatus (withPorts params4 Ports.idle)) = some (.built 0x00000000) ∧
    returnedOf (exec .reqStatus (withPorts params4 (flagPorts (some true) none none none none))) =
      some (.built 0x80000100) ∧
    returnedOf (exec .reqStatus (withPorts params4 (flagPorts none (some true) none none none))) =
      some (.built 0x80000200) ∧
    returnedOf (exec .reqStatus (withPorts params4 (flagPorts none none (some true) none none))) =
      some (.built 0x80000400) ∧
    returnedOf (exec .reqStatus (withPorts params4 (flagPorts none none none (some true) none))) =
      some (.built 0x80000800) ∧
    returnedOf (exec .reqStatus (withPorts params4 (flagPorts (some false) none none none (some true)))) =
      some (.built 0x80001000) ∧
    returnedOf (exec .reqStatus (withPorts params4 (flagPorts (some true) (some true) none none none))) =
      some (.built 0x00000300) := by decide +kernel

/-- The Status request as a WRITE_DATA frame. -/
theorem test_build_status_write :
    returnedOf (exec .reqStatus (withPorts { params4 with statusType := .writeData }
      (flagPorts (some true) (some true) (some true) (some true) (some true)))) = some (.built 0x10001F00) := by
  decide +kernel

/-- Setpoint requests, present and absent; the other identifier's setpoint is not used. -/
theorem test_build_setpoints :
    returnedOf (exec .reqTSet (withPorts params4 (setpointPorts 1 0x42700000))) = some (.built 0x10013C00) ∧
    returnedOf (exec .reqTSet (withPorts params4 (setpointPorts 1 0xC0A80000))) = some (.built 0x1001FAC0) ∧
    returnedOf (exec .reqTSet (withPorts params4 (setpointPorts 1 0x43480000))) = some (.built 0x9001C800) ∧
    returnedOf (exec .reqTSet (withPorts params4 (setpointPorts 1 0x43000000))) = some (.built 0x90018000) ∧
    returnedOf (exec .reqTSet (withPorts params4 (setpointPorts 1 0x3B800000))) = some (.built 0x90010001) ∧
    returnedOf (exec .reqTSet (withPorts params4 (setpointPorts 1 0x424A0000))) = some (.built 0x10013280) ∧
    returnedOf (exec .reqTsetCH2 (withPorts params4 (setpointPorts 8 0x42360000))) = some (.built 0x90082D80) ∧
    returnedOf (exec .reqTSet (withPorts params4 (setpointPorts 8 0x42700000))) = some (.built 0x10010000) ∧
    returnedOf (exec .reqTsetCH2 (withPorts params4 (setpointPorts 1 0x42700000))) = some (.built 0x10080000) := by
  decide +kernel

/-- Failures: an identifier outside `BUILD_SET`, and MaxTSet without its parameter. -/
theorem test_build_failures :
    returnedOf (exec (.reqUnknown 56) plain) = some (.unknownRequest 56) ∧
    returnedOf (exec .reqMaxTSet (withPorts { params4 with maxTSetReq := false } Ports.idle)) =
      some (.unknownRequest 57) := by decide

/-- The identifiers outside `BUILD_SET` are exactly those of the table of failures. -/
theorem test_build_set : ((List.range 256).filter fun n => !inBuildSet params4 (BitVec.ofNat 8 n)) =
    [2, 4, 5, 7] ++ (List.range 8).map (· + 9) ++ (List.range 5).map (· + 20) ++ (List.range 14).map (· + 34) ++
    (List.range 7).map (· + 50) ++ (List.range 58).map (· + 58) ++ (List.range 132).map (· + 124) := by decide +kernel

/-! ### The Response Dispatcher (95_test_vectors.md 2.5) -/

/-- The flag responses. -/
theorem test_dispatch_flags : allEmit [
    (.rspStatus 0xC0000003, (flags statusKinds [true, true, false, false, false, false, false])),
    (.rspStatus 0x40000020, (flags statusKinds [false, false, false, false, false, true, false])),
    (.rspStatus 0x40001F00, (flags statusKinds [false, false, false, false, false, false, false])),
    (.rspSConfigSMemberIDcode 0xC0030021, (flags configKinds [true, false, false, false, false, true])),
    (.rspRBPflags 0x40060301, (flags remoteKinds [true, true, true, false]))] = true := by decide +kernel

theorem test_dispatch_config_high_byte :
    eventsOf (exec (.rspSConfigSMemberIDcode 0xC0032100) (withPorts { params4 with configFlagByte := .hb } Ports.idle)) =
      some (flags configKinds [true, false, false, false, false, true]) := by
  decide +kernel

/-- The analog responses and the setpoint echoes. -/
theorem test_dispatch_readings : allEmit [
    (.rspTSet 0xD0013C00, [.diag (.logEcho 1 60)]),
    (.rspTsetCH2 0x50082D80, [.diag (.logEcho 8 (91 / 2))]),
    (.rspRelModLevel 0xC0114B00, [.pubS .relModLevel 75]),
    (.rspCHPressure 0xC0120180, [.pubS .chPressure (3 / 2)]),
    (.rspDHWFlowRate 0xC0130C40, [.pubS .dhwFlowRate (49 / 4)]),
    (.rspTboiler 0xC0193C80, [.pubS .tBoiler (121 / 2)]),
    (.rspTboiler 0x00193C80, [.pubS .tBoiler (121 / 2)]),
    (.rspTdhw 0xC01A3100, [.pubS .tDhw 49]),
    (.rspToutside 0xC01BFAC0, [.pubS .tOutside (-21 / 4)]),
    (.rspTret 0xC01C2D40, [.pubS .tRet (181 / 4)]),
    (.rspTstorage 0x401D3700, [.pubS .tStorage 55]),
    (.rspTcollector 0xC01E0050, [.pubS .tCollector 80]),
    (.rspTflowCH2 0x401F2800, [.pubS .tFlowCh2 40]),
    (.rspTdhw2 0xC0203200, [.pubS .tDhw2 50]),
    (.rspTexhaust 0x4021FF38, [.pubS .tExhaust (-200)])] = true := by decide +kernel

/-- The boundary pairs, MaxTSet, the counters and an unexpected identifier. -/
theorem test_dispatch_pairs_and_counters : allEmit [
    (.rspTdhwSetUBTdhwSetLB 0xC0303C28, [.pubS .tdhwSetUb 60, .pubS .tdhwSetLb 40]),
    (.rspMaxTSetUBMaxTSetLB 0x40315A14, [.pubS .maxTsetUb 90, .pubS .maxTsetLb 20]),
    (.rspMaxTSet 0xC0395000, [.pubS .maxTset 80]),
    (.rspBurnerStarts 0x40741234, [.pubS .burnerStarts 4660]),
    (.rspCHPumpStarts 0x40750000, [.pubS .chPumpStarts 0]),
    (.rspDHWPumpValveStarts 0xC0768000, [.pubS .dhwPumpValveStarts 32768]),
    (.rspDHWBurnerStarts 0xC07700FF, [.pubS .dhwBurnerStarts 255]),
    (.rspBurnerOperationHours 0xC078FFFF, [.pubS .burnerOperationHours 65535]),
    (.rspCHPumpOperationHours 0x40790A00, [.pubS .chPumpOperationHours 2560]),
    (.rspDHWPumpValveOperationHours 0xC07A0001, [.pubS .dhwPumpValveOperationHours 1]),
    (.rspDHWBurnerOperationHours 0x407B7FFF, [.pubS .dhwBurnerOperationHours 32767]),
    (.rspUnexpected 0x40380000, [.diag (.unexpectedResponse 56)])] = true := by decide +kernel

/-- Deliveries that are not VALID, also of an unexpected identifier. -/
theorem test_dispatch_invalid :
    dispatch params4 ⟨0xC0193C80, .none⟩ = [.diag (.invalidResponse .none 0xC0193C80)] ∧
    dispatch params4 ⟨0xC0193C80, .invalid⟩ = [.diag (.invalidResponse .invalid 0xC0193C80)] ∧
    dispatch params4 ⟨0x00000000, .timeout⟩ = [.diag (.invalidResponse .timeout 0x00000000)] ∧
    dispatch params4 ⟨0x40380000, .invalid⟩ = [.diag (.invalidResponse .invalid 0x40380000)] := by decide

/-! ### The scheduler, one TICK each (95_test_vectors.md 2.6 and Part 3) -/

/-- The table of scheduler steps: the position after one tick. -/
theorem test_tick_positions :
    positionOf (exec .opTick (runningAt [25, 26] [27, 28] true 0 (busyPorts none))) = some (true, 0) ∧
    positionOf (exec .opTick (runningAt [25, 26] [27, 28] true 0 (readyPorts none))) = some (true, 1) ∧
    positionOf (exec .opTick (runningAt [25, 26] [27, 28] true 2 (readyPorts none))) = some (false, 1) ∧
    positionOf (exec .opTick (runningAt [25, 26] [27, 28] false 2 (readyPorts none))) = some (false, 1) ∧
    positionOf (exec .opTick (runningAt [25, 26] [27, 28] false 1 (readyPorts none))) = some (false, 2) ∧
    positionOf (exec .opTick (runningAt [] [0] true 0 (readyPorts none))) = some (false, 1) ∧
    positionOf (exec .opTick (runningAt [] [0] false 1 (readyPorts none))) = some (false, 1) ∧
    positionOf (exec .opTick (runningAt [56] [30] true 0 (readyPorts none))) = some (true, 1) := by decide +kernel

/-- P2 ticks 3, 4 and 5, P4 tick 1: a not-ready tick dispatches, a phase change sends the first repeating entry, an
invalid delivery is reported, an unknown entry is reported. -/
theorem test_tick_events :
    eventsOf (exec .opTick (runningAt [25, 26] [27, 28] true 2 (busyPorts (some ⟨0xC01BFAC0, .valid⟩)))) =
      some [.process, .pubS .tOutside (-21 / 4)] ∧
    eventsOf (exec .opTick (runningAt [25, 26] [27, 28] true 2 (readyPorts none))) =
      some [.tx 0x001B0000, .process] ∧
    eventsOf (exec .opTick (runningAt [25, 26] [27, 28] false 1 (readyPorts (some ⟨0xC01C2D40, .invalid⟩)))) =
      some [.tx 0x801C0000, .process, .diag (.invalidResponse .invalid 0xC01C2D40)] ∧
    eventsOf (exec .opTick (runningAt [56] [30, 56, 116] true 0 (readyPorts none))) =
      some [.diag (.unknownRequest 56), .process] := by decide +kernel

/-- P1 tick 1: the setpoint 60.0 is sent and its echo logged. -/
theorem test_tick_setpoint :
    eventsOf (exec .opTick (runningAt [1] [0] true 0
      { readyPorts (some ⟨0xD0013C00, .valid⟩) with setpoints := [(1, 0x42700000)] })) =
      some [.tx 0x10013C00, .process, .diag (.logEcho 1 60)] := by decide +kernel

/-- P6: under PROCESS_THEN_SEND the request follows `PROCESS`. -/
theorem test_tick_process_then_send :
    eventsOf (exec .opTick ((runningAt [] [25] true 0 (readyPorts none)).withTickOrder .processThenSend)) =
      some [.process, .tx 0x80190000] := by decide +kernel

/-! ### The lifecycle (95_test_vectors.md 2.7) -/

theorem test_lifecycle_start :
    (nextOf (exec .opStart (State.construct params4 [49] [6, 3]))).map (fun s => (s.rep, s.initializing, s.cursor, s.lc)) =
      some ([6, 3], true, 0, .running) ∧
    (nextOf (exec .opStart plain)).map (fun s => (s.rep, s.initializing, s.cursor, s.lc)) =
      some ([0], true, 0, .running) ∧
    refusalOf (exec .opStart (runningAt [] [0] true 0 Ports.idle)) = some .startRepeated ∧
    refusalOf (exec .opStart (runningAt [] [0] true 0 Ports.idle).halted) = some .startRepeated := by decide

theorem test_lifecycle_tick_outside_running :
    refusalOf (exec .opTick plain) = some .tickBeforeStart ∧
    nextOf (exec .opTick (runningAt [] [0] false 1 (readyPorts (some ⟨0xC0030021, .valid⟩))).halted) =
      some (runningAt [] [0] false 1 (readyPorts (some ⟨0xC0030021, .valid⟩))).halted := by decide +kernel

theorem test_lifecycle_stop :
    (nextOf (exec .opStop plain)).map State.lc = some .stopped ∧
    nextOf (exec .opStop (runningAt [] [0] false 1 Ports.idle)) = some (runningAt [] [0] false 1 Ports.idle).halted ∧
    nextOf (exec .opStop plain.halted) = some plain.halted := by decide

/-! ### Steps, the schedule text, reset -/

/-- A step takes the oldest presented operation with its inputs. -/
theorem test_step_takes_the_oldest :
    (nextOf (step (plain.present
      [⟨lifecycleCommand .start, Ports.idle⟩, ⟨lifecycleCommand .tick, readyPorts none⟩]))).map
      (fun s => (s.lc, s.pending)) = some (.running, [⟨lifecycleCommand .tick, readyPorts none⟩]) := by decide

theorem test_step_runs_the_fetch_word :
    returnedOf (step (State.reset.withFetchWord 32 0x80190000)) = some (.built 0x80190000) ∧
    eventsOf (step (State.reset.withFetchWord 24 0x00190000)) = some [.process, .pubS .tBoiler 0] := by
  decide +kernel

/-- A frame at the response port is a TICK that reads not ready (60_exceptions.md R289, log entry 18): refused before
START, without effect after STOP, and in RUNNING dispatched after `PROCESS` with nothing sent, whatever is read. -/
theorem test_step_response_is_within_a_tick :
    let frame : Presented := ⟨responseCommand 0xC0193C80, readyPorts none⟩
    refusalOf (step (plain.present [frame])) = some .tickBeforeStart ∧
    eventsOf (step (plain.halted.present [frame])) = some [] ∧
    eventsOf (step ((runningAt [] [25] false 1 Ports.idle).present [frame])) =
      some [.process, .pubS .tBoiler (121 / 2)] ∧
    (nextOf (step ((runningAt [] [25] false 1 Ports.idle).present [frame]))).map (fun s => s.ports.rsp) =
      some none := by decide +kernel

/-- P1, P3 and P4 in the syntax of 30_encoding.md R88. -/
theorem test_schedule_text :
    (constructFromText params4 "initial: TSet" "repeating: Status").map (fun s => (s.cfgInit, s.cfgRep)) =
      some ([1], [0]) ∧
    (constructFromText params4 "initial:" "repeating:").map (fun s => (s.cfgInit, s.cfgRep)) = some ([], []) ∧
    (constructFromText params4 "initial: 56" "repeating: Tcollector, 0x38, BurnerStarts").map
      (fun s => (s.cfgInit, s.cfgRep)) = some ([0x38], [0x1E, 0x38, 0x74]) ∧
    (constructFromText params4 "initial: 256" "repeating:") = none := by decide +kernel

theorem test_core : Sys2Proof.core.reset = State.reset := rfl

/-! ### Witnesses: concrete states and operands that meet the hypotheses of each statement -/

theorem params4_wf : params4.wf := by decide

/-- A state of the invariant, in the middle of its repeating list. -/
theorem inv_of_lists (init rep : List MsgId) (phase : Bool) (cursor : Nat) (ports : Ports)
    (hi : init.length ≤ 4) (hr : rep.length ≤ 4) (h1 : rep ≠ [])
    (hc : cursor ≤ (if phase then init else rep).length) : (runningAt init rep phase cursor ports).Inv where
  listMax_pos := by simp [runningAt, State.construct, params4]
  cfgInit_fits := hi
  cfgRep_fits := hr
  rep_fits := hr
  cursor_le := hc
  rep_effective := fun _ => by
    simp [runningAt, State.construct, State.effectiveRep, h1]

theorem witness_SignedByteDecodesDependOnTheirByteOnly :
    (∀ i, 8 ≤ i → i < 16 → bitSet 0xC0303C28 i = bitSet 0x00003CFF i) ∧
    (∀ i, i < 8 → bitSet 0xC0303C28 i = bitSet 0xFFFFFF28 i) := by
  constructor
  · intro i h1 h2; interval_cases i <;> rfl
  · intro i h; interval_cases i <;> rfl

/-- 8388607.0, the largest magnitude of the domain (95_test_vectors.md 2.2). -/
theorem witness_EncodeWrapTruncatesTowardZeroAndWraps :
    plain.params.encMode = .wrap ∧ binary32Number 0x4AFFFFFE = .finite 8388607 ∧
    (-2147483648 : Rat) < 8388607 * 256 ∧ (8388607 : Rat) * 256 < 2147483648 :=
  ⟨rfl, by decide +kernel, by norm_num, by norm_num⟩

theorem witness_EncodeClampLimitsTo0To100 :
    (withPorts { params4 with encMode := .clamp0to100 } Ports.idle).params.encMode = .clamp0to100 ∧
    binary32Number 0x43480000 = .finite 200 ∧ binary32Number 0xFF800000 = .infinity true ∧
    binary32Number 0x7F800000 = .infinity false ∧ binary32Number 0x7FC00000 = .nan :=
  ⟨rfl, by decide +kernel, rfl, rfl, rfl⟩

/-- NaN, an infinity, the first magnitude outside the domain on either side, and two NaNs of different payload. -/
theorem witness_EncodeOutOfDomainReturnsTheDraw :
    plain.params.encMode = .wrap ∧ binary32Number 0x7FC00000 = .nan ∧ binary32Number 0x7F800000 = .infinity false ∧
    (binary32Number 0xCB000000 = .finite (-8388608) ∧ (-8388608 : Rat) * 256 ≤ -2147483648) ∧
    (binary32Number 0x4B000000 = .finite 8388608 ∧ (2147483648 : Rat) ≤ 8388608 * 256) ∧
    binary32Number 0x7FC00000 = binary32Number 0xFFC12345 :=
  ⟨rfl, rfl, rfl, ⟨by decide +kernel, by norm_num⟩, ⟨by decide +kernel, by norm_num⟩, by decide +kernel⟩

/-- The ends of the range and a value inside. -/
theorem witness_FixedPointRoundTripIsExact :
    plain.params.encMode = .wrap ∧ binary32Number 0xC3000000 = .finite (((-32768 : Int) : Rat) / 256) ∧
    binary32Number 0x42FFFE00 = .finite (((32767 : Int) : Rat) / 256) ∧
    binary32Number 0xC0A80000 = .finite (((-1344 : Int) : Rat) / 256) ∧ framePayload 0x0000FAC0 = 0xFAC0 :=
  ⟨rfl, by decide +kernel, by decide +kernel, by decide +kernel, rfl⟩

theorem witness_EveryPublishedNumberIsABinary32 :
    Event.pubS .tBoiler (121 / 2) ∈ dispatch params4 ⟨0xC0193C80, .valid⟩ ∧
    Event.diag (.logEcho 1 60) ∈ dispatch params4 ⟨0xD0013C00, .valid⟩ := by decide +kernel

theorem witness_SetpointRequestsCarryTheEncodedSetpoint :
    (Instr.reqTsetCH2, MsgName.tsetCH2) ∈ [(Instr.reqTSet, MsgName.tSet), (Instr.reqTsetCH2, MsgName.tsetCH2)] ∧
    (setpointPorts 8 0x42360000).setpoints.lookup (params4.idMap.idOf .tsetCH2) = some 0x42360000 ∧
    (setpointPorts 8 0x42360000).setpoints.lookup (params4.idMap.idOf .tSet) = none := by decide

theorem witness_ReadRequestsAreZeroPayloadReads :
    (Instr.reqTboiler, MsgName.tboiler) ∈ [(Instr.reqTboiler, MsgName.tboiler), (Instr.reqTdhw, MsgName.tdhw)] := by
  decide

theorem witness_MaxTSetRequestDependsOnItsParameter :
    plain.params.maxTSetReq = true ∧
    (withPorts { params4 with maxTSetReq := false } Ports.idle).params.maxTSetReq = false := ⟨rfl, rfl⟩

/-- 56 is no name's number; 57 is only MaxTSet's, whose request is off; 25 is Tboiler's. -/
theorem witness_UnknownIdentifiersFailWithoutAFrame :
    plain.params.wf ∧ (∀ n, plain.params.idMap.idOf n = 56 → n = .maxTSet ∧ plain.params.maxTSetReq = false) ∧
    (let off : Config.Params := { params4 with maxTSetReq := false }
     ∀ n, off.idMap.idOf n = 57 → n = .maxTSet ∧ off.maxTSetReq = false) ∧
    plain.params.idMap.idOf .tboiler = 25 :=
  ⟨params4_wf, fun n h => by cases n <;> exact absurd h (by decide),
    fun n h => by cases n <;> first | exact ⟨rfl, rfl⟩ | exact absurd h (by decide), rfl⟩

/-- Two states that differ in phase, cursor, lifecycle and history, with equal flags. -/
theorem witness_BuildersReadOnlyTheirOwnInputs :
    let s := withPorts params4 (flagPorts (some true) none none none none)
    let s' := (runningAt [1] [0] false 1 (flagPorts (some true) none none none none)).emit [.process]
    s.params = s'.params ∧ s.ports.flags = s'.ports.flags ∧
    (nextOf (exec (Instr.reqOf .status) s)).isSome ∧ (nextOf (exec (Instr.reqOf .status) s')).isSome := by decide

theorem witness_DecodeOfEncodeIsTheInstruction :
    params4.wf ∧ (Instr.reqUnknown 255).wellFormed params4 = true ∧
    (Instr.codecDecodeFlag 0xFFFFFFFF 31).wellFormed params4 = true := by decide

theorem witness_DecodedInstructionsAreWellFormed :
    decode params4 ⟨.response, 0xC0193C80, 0⟩ = .ok (.rspTboiler 0xC0193C80) := by decide

theorem witness_EveryFrameRunsTheRowOfItsIdentifier :
    params4.wf ∧ (params4.idMap.idOf .tboiler).toNat = (0xC0193C80 : Frame).toNat / 2 ^ 16 % 2 ^ 8 ∧
    (∀ n, (params4.idMap.idOf n).toNat ≠ (0x40380000 : Frame).toNat / 2 ^ 16 % 2 ^ 8) :=
  ⟨params4_wf, by decide, fun n => by cases n <;> decide⟩

theorem witness_BuiltFramesDecodeToTheirOwnRow :
    plain.params.wf ∧ returnedOf (exec (Instr.reqOf .tboiler) plain) = some (.built 0x80190000) := by decide +kernel

theorem witness_StepRunsThePresentedInstruction :
    plain.pending = [] ∧
    (plain.present [⟨requestCommand 0x80190000, Ports.idle⟩]).pending = [⟨requestCommand 0x80190000, Ports.idle⟩] ∧
    decode params4 (requestCommand 0x80190000) = .ok .reqTboiler ∧
    decode params4 (requestCommand 0x20190000) = .error .notARequestFrame ∧
    (requestCommand 0x80190000).port ≠ .response ∧
    (plain.present [⟨responseCommand 0xC0193C80, Ports.idle⟩]).pending =
      [⟨responseCommand 0xC0193C80, Ports.idle⟩] ∧
    (responseCommand 0xC0193C80).port = .response ∧ (runningAt [] [0] false 1 Ports.idle).lc = .running ∧
    decode params4 (responseCommand 0xC0193C80) = .ok (.rspTboiler 0xC0193C80) ∧
    decode params4 (tableCommand params4 32 0x80190000) = .ok .reqTboiler ∧
    (tableCommand params4 32 0x80190000).port ≠ .response ∧
    decode params4 (tableCommand params4 24 0x00190000) = .ok (.rspTboiler 0x00190000) ∧
    (tableCommand params4 24 0x00190000).port = .response := by decide

theorem witness_ConfigResponsePublishesSixFlags :
    plain.params.configFlagByte = .lb ∧
    (withPorts { params4 with configFlagByte := .hb } Ports.idle).params.configFlagByte = .hb := ⟨rfl, rfl⟩

theorem witness_AnalogResponsesPublishFixedPoint :
    (Instr.rspMaxTSet 0xC0395000, SensorKind.maxTset) ∈
      [(Instr.rspTdhw2 0xC0395000, SensorKind.tDhw2), (Instr.rspMaxTSet 0xC0395000, SensorKind.maxTset)] := by decide

theorem witness_CounterResponsesPublishUnsigned :
    (Instr.rspBurnerStarts 0x40741234, SensorKind.burnerStarts) ∈
      [(Instr.rspBurnerStarts 0x40741234, SensorKind.burnerStarts),
        (Instr.rspCHPumpStarts 0x40741234, SensorKind.chPumpStarts)] := by decide

theorem witness_UnexpectedResponsesAreReported :
    ∀ n, (plain.params.idMap.idOf n).toNat ≠ (0x00FF0000 : Frame).toNat / 2 ^ 16 % 2 ^ 8 := fun n => by
  cases n <;> decide

/-- All three failing statuses, and a RUNNING state that reads not ready. -/
theorem witness_InvalidDeliveriesAreReportedAndDropped :
    Validity.none ≠ .valid ∧ Validity.invalid ≠ .valid ∧ Validity.timeout ≠ .valid ∧
    (let s := runningAt [] [0] false 1 (busyPorts (some ⟨0xC0193C80, .timeout⟩))
     s.lc = .running ∧ s.ports.ready = false ∧ s.ports.rsp = some ⟨0xC0193C80, .timeout⟩) := by decide

/-- A tick that reads not ready, and one of the invariant that reads ready. -/
theorem witness_ValidDeliveriesRunTheirResponseRow :
    let s := runningAt [] [0] false 1 (busyPorts (some ⟨0xC0193C80, .valid⟩))
    let s' := runningAt [] [0] false 1 (readyPorts (some ⟨0xC0193C80, .valid⟩))
    (s.lc = .running ∧ s.ports.ready = false ∧ s.ports.rsp = some ⟨0xC0193C80, .valid⟩ ∧
      decode s.params (responseCommand 0xC0193C80) = .ok (.rspTboiler 0xC0193C80)) ∧
    (s'.Inv ∧ s'.lc = .running ∧ s'.ports.ready = true ∧ s'.ports.rsp = some ⟨0xC0193C80, .valid⟩ ∧
      decode s'.params (responseCommand 0xC0193C80) = .ok (.rspTboiler 0xC0193C80)) :=
  ⟨by decide, inv_of_lists _ _ _ _ _ (by decide) (by decide) (by decide) (by decide), rfl, rfl, rfl, by decide⟩

theorem witness_ParityAndTypeBitsAreNeverRead :
    let s := runningAt [] [0] false 1 (readyPorts (some ⟨0xC0193C80, .valid⟩))
    (0xC0193C80 : Frame).toNat % 2 ^ 24 = (0x3F193C80 : Frame).toNat % 2 ^ 24 ∧
    s.lc = .running ∧ s.ports.rsp = some ⟨0xC0193C80, .valid⟩ := by decide

theorem witness_OnlyLifecycleOperationsMoveTheScheduler :
    Instr.reqStatus ≠ .opStart ∧ Instr.reqStatus ≠ .opTick ∧ Instr.reqStatus ≠ .opStop ∧
    (nextOf (exec .reqStatus plain)).isSome ∧ (nextOf (exec (.rspStatus 0) plain)).isSome := by decide

/-- The two events of a boundary pair, in their order and in the other. -/
theorem witness_ResponsesPublishTheirOwnKindsOnce :
    eventsOf (exec (Instr.rspOf .tdhwSetUBTdhwSetLB 0xC0303C28) plain) =
      some [.pubS .tdhwSetUb 60, .pubS .tdhwSetLb 40] ∧
    [Event.pubS .tdhwSetLb 40, .pubS .tdhwSetUb 60].Perm [.pubS .tdhwSetUb 60, .pubS .tdhwSetLb 40] :=
  ⟨by decide +kernel, .swap _ _ _⟩

/-- A later publish of another kind, a kind never published, a tick that dispatches, and a response row. -/
theorem witness_SinkHoldsTheLastPublishedValue :
    (∀ q', Event.pubS .tBoiler q' ∉ [Event.process, .pubS .tDhw 49]) ∧
    (∀ b', Event.pubB .fault b' ∉ [Event.process, .pubB .flameOn true]) ∧
    (let s := runningAt [] [25] false 1 (readyPorts (some ⟨0xC0193C80, .valid⟩))
     s.lc = .running ∧ (nextOf (exec .opTick s)).map (fun t => sinkSensor t.events .tBoiler) = some (some (121 / 2))) ∧
    (nextOf (exec (Instr.rspOf .tboiler 0xC0193C80) plain)).isSome ∧
    SensorKind.tDhw.codeOwner.2 ≠ .tboiler ∧ BinaryKind.fault.codeOwner.2 ≠ .tboiler :=
  ⟨by simp, by simp, by decide +kernel, by decide, by decide, by decide⟩

theorem witness_StartSetsTheScheduler :
    plain.lc = .constructed ∧ plain.cfgRep = [] ∧ (State.construct params4 [] [27]).lc = .constructed ∧
    (State.construct params4 [] [27]).cfgRep ≠ [] := by decide

theorem witness_LifecycleTableIsObeyed :
    plain.lc = .constructed ∧ (runningAt [] [0] true 0 Ports.idle).lc = .running ∧ plain.halted.lc = .stopped := by
  decide

theorem witness_NotReadyTickOnlyProcesses :
    let s := runningAt [] [0] false 1 (busyPorts none)
    s.lc = .running ∧ s.ports.ready = false ∧ s.ports.rsp = none := by decide

/-- At the end of `CFG_INIT`, the case where the phase changes. -/
theorem witness_ReadyTickIssuesTheEntryAtTheCursor :
    let s := runningAt [25, 26] [27, 28] true 2 (readyPorts none)
    s.Inv ∧ s.lc = .running ∧ s.ports.ready = true ∧ s.nextEntry = some 27 :=
  ⟨inv_of_lists _ _ _ _ _ (by decide) (by decide) (by decide) (by decide), rfl, rfl, by decide⟩

theorem witness_UnknownEntriesAreReportedAndSkipped :
    let s := runningAt [56] [30] true 0 (readyPorts none)
    s.Inv ∧ s.lc = .running ∧ s.ports.ready = true ∧ s.nextEntry = some 56 ∧
    requestInstr s.params 56 = .reqUnknown 56 :=
  ⟨inv_of_lists _ _ _ _ _ (by decide) (by decide) (by decide) (by decide), rfl, rfl, by decide, by decide⟩

theorem witness_OneRequestPerReadyTick :
    (runningAt [] [0] true 0 (readyPorts none)).lc = .running ∧
    (nextOf (exec .opTick (runningAt [] [0] true 0 (readyPorts none)))).isSome ∧
    (nextOf (exec .opTick (runningAt [] [0] true 0 (busyPorts none)))).isSome := by decide +kernel

/-- One ready tick of two: k = 1 at the end of a one-entry `CFG_INIT`; and k = 2 past it. -/
theorem witness_SchedulePositionAfterKReadyTicks :
    (State.construct params4 [25] [27]).lc = .constructed ∧
    1 = ([readyPorts none, busyPorts none].filter fun x => x.ready).length ∧
    2 = ([readyPorts none, readyPorts none].filter fun x => x.ready).length := by decide

theorem witness_ReadyTicksIssueTheScheduleInOrder :
    let s := State.construct params4 [25] [27]
    s.lc = .constructed ∧ exec .opStart s = .next s.started ∧ (ticks s.started [readyPorts none]).isSome ∧
    (readyPorts none).ready = true :=
  ⟨rfl, rfl, by decide +kernel, rfl⟩

theorem witness_TickOrderChangesOnlyTheInterleaving :
    let s := runningAt [] [25] true 0 Ports.idle
    let inputs := [readyPorts (some ⟨0xC0193C80, .valid⟩)]
    s.lc = .running ∧ s.Inv ∧ (ticks (s.withTickOrder .sendThenProcess) inputs).isSome ∧
    (ticks (s.withTickOrder .processThenSend) inputs).isSome :=
  ⟨rfl, inv_of_lists _ _ _ _ _ (by decide) (by decide) (by decide) (by decide), by decide +kernel, by decide +kernel⟩

/-- A request in flight and a transceiver that says so; the history has no second request. -/
theorem witness_DutyKeepsOneRequestOutstanding :
    let s := { runningAt [] [25] false 1 (busyPorts none) with events := [.tx 0x80190000] }
    (nextOf (exec .opTick s)).isSome ∧ inFlight s.events = true ∧ s.transceiverDuty ∧
    (receivePhase s).transceiverDuty ∧ singleOutstanding s.events := by
  refine ⟨by decide +kernel, by decide, fun _ => rfl, fun _ => rfl, fun before frame after h => ?_⟩
  cases before with
  | nil => rfl
  | cons e rest =>
    have := congrArg List.length h
    simp at this

theorem witness_UnknownSchedulesSendNothing :
    let s := runningAt [] [56] false 1 Ports.idle
    s.lc = .running ∧ s.initializing = false ∧ (∀ id ∈ s.rep, requestInstr s.params id = .reqUnknown id) ∧
    (ticks s [readyPorts none]).isSome := by decide +kernel

/-- Lists of exactly `P_LIST_MAX` entries. -/
theorem witness_InvariantHoldsAtConstruction :
    1 ≤ params4.listMax ∧ [25, 26, 27, 28].length ≤ params4.listMax ∧ [1, 8, 0, 3].length ≤ params4.listMax := by
  decide

theorem witness_EveryStepKeepsTheInvariant :
    let s := (runningAt [25, 26] [27, 28] true 2 Ports.idle).present [⟨lifecycleCommand .tick, readyPorts none⟩]
    s.Inv ∧ (nextOf (step s)).isSome := by
  have h := inv_of_lists [25, 26] [27, 28] true 2 Ports.idle (by decide) (by decide) (by decide) (by decide)
  exact ⟨⟨h.1, h.2, h.3, h.4, h.5, h.6⟩, by decide +kernel⟩

/-- The cursor at `P_LIST_MAX`. -/
theorem witness_NoStepFaultsUnderTheInvariant_and_CursorFitsItsWidth :
    (runningAt [] [25, 26, 27, 28] false 4 Ports.idle).Inv :=
  inv_of_lists _ _ _ _ _ (by decide) (by decide) (by decide) (by decide)

/-- A step that changes `REP`: START of a block with an empty `CFG_REP`. -/
theorem witness_ConfigurationNeverChanges :
    (nextOf (step (plain.present [⟨lifecycleCommand .start, Ports.idle⟩]))).map State.rep = some [0] ∧
    plain.rep ≠ [0] := by decide

theorem witness_HistoryIsAppendOnly :
    eventsOf (step ((runningAt [] [0] false 1 Ports.idle).present [⟨lifecycleCommand .tick, busyPorts none⟩])) =
      some [.process] := by decide +kernel

/-- The three premises: REPEATING in RUNNING, and STOPPED. -/
theorem witness_PhaseAndLifecycleMoveForward :
    (runningAt [] [0] false 1 Ports.idle).lc ≠ .constructed ∧
    (runningAt [] [0] false 1 Ports.idle).initializing = false ∧
    plain.halted.lc = .stopped ∧ (nextOf (step plain.halted)).isSome := by decide

/-- A step that sends, and the two ways to a step that dispatches. -/
theorem witness_OnlyRunningTicksTransmitOrDispatch :
    let s := runningAt [] [0] false 1 Ports.idle
    eventsOf (step (s.present [⟨lifecycleCommand .tick, readyPorts none⟩])) = some [.tx 0x00000000, .process] ∧
    eventsOf (step (s.present [⟨lifecycleCommand .tick, busyPorts (some ⟨0xC0193C80, .valid⟩)⟩])) =
      some [.process, .pubS .tBoiler (121 / 2)] ∧
    eventsOf (step (s.present [⟨responseCommand 0xC0193C80, Ports.idle⟩])) =
      some [.process, .pubS .tBoiler (121 / 2)] := by decide +kernel

theorem witness_ResponsesNeverTouchTheScheduler :
    let s := runningAt [] [25] false 1 (readyPorts none)
    plain.params = s.params ∧ decode plain.params (responseCommand 0xC0193C80) = .ok (.rspTboiler 0xC0193C80) ∧
    (Delivery.mk 0xC0193C80 .timeout).status ≠ .valid ∧ (nextOf (exec .opTick s)).isSome ∧
    (nextOf (exec .opTick { s with ports := { s.ports with rsp := some ⟨0xC0193C80, .valid⟩ } })).isSome := by
  decide +kernel

end Sys2Proof.Tests
end

section
/-! The frame-decoding rows of the codec (40_codec.md R101 to R105): each returns its decode of the frame and changes
nothing else; the laws of the codec give the decode in terms of the frame's number. -/

namespace Sys2Proof.Machine

theorem exec_codecDecodeSigned16 (frame : Frame) (s : State) :
    exec (.codecDecodeSigned16 frame) s = .next (s.returning (.int (decodeSigned16 frame))) := rfl

theorem exec_codecDecodeFixedPoint (frame : Frame) (s : State) :
    exec (.codecDecodeFixedPoint frame) s = .next (s.returning (.rational (decodeFixedPoint frame))) := rfl

theorem exec_codecDecodeHighByteSigned (frame : Frame) (s : State) :
    exec (.codecDecodeHighByteSigned frame) s = .next (s.returning (.int (decodeHighByteSigned frame))) := rfl

theorem exec_codecDecodeLowByteSigned (frame : Frame) (s : State) :
    exec (.codecDecodeLowByteSigned frame) s = .next (s.returning (.int (decodeLowByteSigned frame))) := rfl

theorem exec_codecDecodeUint16 (frame : Frame) (s : State) :
    exec (.codecDecodeUint16 frame) s = .next (s.returning (.int (decodeUint16 frame))) := rfl

/-- Settles O1: the payload's two's-complement value is its number read as a signed 16-bit integer. -/
theorem decodeSigned16ReturnsSignedPayload : Obligations.DecodeSigned16ReturnsSignedPayload := by
  intro frame s
  rw [exec_codecDecodeSigned16, decodeSigned16_eq, State.returning]

/-- Settles O2: the same signed payload, over 256 as an exact rational. -/
theorem decodeFixedPointReturnsPayloadOver256 : Obligations.DecodeFixedPointReturnsPayloadOver256 := by
  intro frame s
  rw [exec_codecDecodeFixedPoint, decodeFixedPoint_eq, State.returning]

/-- Settles O3, one byte at a time. -/
theorem signedByteDecodesReturnTheirByte : Obligations.SignedByteDecodesReturnTheirByte := by
  intro frame s
  constructor
  · rw [exec_codecDecodeHighByteSigned, decodeHighByteSigned_eq, State.returning]
  · rw [exec_codecDecodeLowByteSigned, decodeLowByteSigned_eq, State.returning]

/-- Settles O4: the payload's number is the frame's number modulo 2^16. -/
theorem decodeUint16ReturnsUnsignedPayload : Obligations.DecodeUint16ReturnsUnsignedPayload := by
  intro frame s
  rw [exec_codecDecodeUint16, decodeUint16_eq, State.returning]

end Sys2Proof.Machine
end

section
/-! The selection of a response row by the frame's identifier (42_response_dispatcher.md R183, R184), and that the
dispatcher touches no block state and no schedule (R213): a tick moves the scheduler by its send phase alone, which reads
no delivery. -/

namespace Sys2Proof.Machine

/-! ### The selection of a response row -/

/-- A number is the frame's identifier when it is the number in bits 23 to 16. -/
theorem eq_frameId_iff {id : MsgId} {frame : Frame} : id = frameId frame ↔ id.toNat = frame.toNat / 2 ^ 16 % 2 ^ 8 := by
  rw [← frameId_toNat, BitVec.toNat_inj]

theorem decode_responseCommand (p : Config.Params) (frame : Frame) :
    decode p (responseCommand frame) = .ok (decodeResponse p frame) := rfl

theorem decodeResponse_of_idOf {p : Config.Params} (hp : p.wf) {n : MsgName} {frame : Frame}
    (h : p.idMap.idOf n = frameId frame) : decodeResponse p frame = Instr.rspOf n frame := by
  rw [decodeResponse, ← h, responseName_idOf hp]

theorem decodeResponse_of_unnamed {p : Config.Params} {frame : Frame} (h : ∀ n, p.idMap.idOf n ≠ frameId frame) :
    decodeResponse p frame = .rspUnexpected frame := by
  rw [decodeResponse, responseName_none.mpr h]

theorem decode_unnamed_frame {p : Config.Params} {frame : Frame}
    (h : ∀ n, (p.idMap.idOf n).toNat ≠ frame.toNat / 2 ^ 16 % 2 ^ 8) :
    decode p (responseCommand frame) = .ok (.rspUnexpected frame) := by
  rw [decode_responseCommand, decodeResponse_of_unnamed fun n hn => h n (eq_frameId_iff.mp hn)]

/-- Settles O21: the row is the one `responseName` finds for bits 23 to 16. -/
theorem everyFrameRunsTheRowOfItsIdentifier : Obligations.EveryFrameRunsTheRowOfItsIdentifier := by
  intro p frame
  refine ⟨⟨_, decode_responseCommand p frame⟩, fun hp n hn => ?_, decode_unnamed_frame⟩
  rw [decode_responseCommand, decodeResponse_of_idOf hp (eq_frameId_iff.mpr hn)]

theorem exec_rspUnexpected (frame : Frame) (s : State) :
    exec (.rspUnexpected frame) s = .next (s.emit [.diag (.unexpectedResponse (frameId frame))]) := rfl

/-- Settles O32: the diagnostic carries the frame's identifier, the number in bits 23 to 16. -/
theorem unexpectedResponsesAreReported : Obligations.UnexpectedResponsesAreReported := by
  intro frame s
  refine ⟨decode_unnamed_frame, ?_⟩
  rw [exec_rspUnexpected, ← frameId_toNat, BitVec.ofNat_toNat, BitVec.setWidth_eq, State.emit]

/-! ### The events of a dispatch -/

theorem isTx_of_isDispatch {e : Event} (h : e.isDispatch = true) : e.isTx = false := by
  cases e with
  | tx frame => cases h
  | process => rfl
  | pubS k q => rfl
  | pubB k b => rfl
  | diag d => rfl

/-- A dispatch sends no frame. -/
theorem dispatch_not_tx (p : Config.Params) (d : Delivery) : (dispatch p d).filter Event.isTx = [] := by
  rw [List.filter_eq_nil_iff]
  intro e he
  simp [isTx_of_isDispatch (dispatch_isDispatch p d e he)]

theorem dispatch_of_not_valid (p : Config.Params) {d : Delivery} (h : d.status ≠ .valid) :
    dispatch p d = [.diag (.invalidResponse d.status d.frame)] := by
  rw [dispatch, if_neg h, raise]

/-! ### The scheduler does not see the delivery -/

theorem exec_opTick_constructed {s : State} (h : s.lc = .constructed) : exec .opTick s = .refused .tickBeforeStart := by
  simp [exec, execOpTick, h]

theorem exec_opTick_stopped {s : State} (h : s.lc = .stopped) : exec .opTick s = .next s := by
  simp [exec, execOpTick, h]

/-- The same block with another answer of the response input (10_state.md R33). -/
def State.withDelivery (s : State) (d : Option Delivery) : State := { s with ports := { s.ports with rsp := d } }

section withDelivery
variable (s : State) (d : Option Delivery)
@[simp] theorem withDelivery_params : (s.withDelivery d).params = s.params := rfl
@[simp] theorem withDelivery_rep : (s.withDelivery d).rep = s.rep := rfl
@[simp] theorem withDelivery_initializing : (s.withDelivery d).initializing = s.initializing := rfl
@[simp] theorem withDelivery_cursor : (s.withDelivery d).cursor = s.cursor := rfl
@[simp] theorem withDelivery_lc : (s.withDelivery d).lc = s.lc := rfl
@[simp] theorem withDelivery_events : (s.withDelivery d).events = s.events := rfl
@[simp] theorem withDelivery_ready : (s.withDelivery d).ports.ready = s.ports.ready := rfl
@[simp] theorem withDelivery_activeList : (s.withDelivery d).activeList = s.activeList := rfl
end withDelivery

/-- Steps 1 and 2 of the send phase read no port. -/
theorem rewind_withDelivery (s : State) (d : Option Delivery) :
    rewind (s.withDelivery d) = (rewind s).withDelivery d := by
  simp only [rewind, apply_ite (State.withDelivery · d)]
  rfl

/-- A build reads the setpoints and the flags and no delivery (41_request_builder.md R163 to R165). -/
theorem build_withDelivery (p : Config.Params) (s : State) (d : Option Delivery) (id : MsgId) :
    build p (s.withDelivery d).ports id = build p s.ports id := rfl

/-- In either order of the phases a tick's issue events are those of its send phase. -/
theorem tickEvents_issues (o : Config.TickOrder) (r : BuildResult) (s : State) :
    (tickEvents o [issueEvent r] (receiveEvents s)).filter Event.isIssue = [issueEvent r] := by
  cases o <;> simp [tickEvents, receiveEvents_not_issue, issueEvent_isIssue]

/-- What the scheduler owns of a state, and the requests issued so far (10_state.md R24 to R28). -/
def schedulerView (s : State) : Bool × Nat × List MsgId × Lifecycle × List Event :=
  (s.initializing, s.cursor, s.rep, s.lc, s.events.filter Event.isIssue)

theorem schedulerView_eq_iff {s t : State} : schedulerView s = schedulerView t ↔
    s.initializing = t.initializing ∧ s.cursor = t.cursor ∧ s.rep = t.rep ∧ s.lc = t.lc ∧
      s.events.filter Event.isIssue = t.events.filter Event.isIssue := by
  simp only [schedulerView, Prod.mk.injEq]

theorem schedulerView_receivePhase (s : State) : schedulerView (receivePhase s) = schedulerView s := by
  simp [receivePhase_eq, schedulerView, receiveEvents_not_issue]

/-- A ready tick that completes: the scheduler is rewound, advances by one, and has issued the entry it read. -/
theorem schedulerView_tick_ready {s t : State} (hr : s.ports.ready = true) (h : tick s = .next t) :
    ∃ id, (rewind s).activeList[(rewind s).cursor]? = some id ∧
      schedulerView t = ((rewind s).initializing, (rewind s).cursor + 1, s.rep, s.lc,
        s.events.filter Event.isIssue ++ [issueEvent (build s.params s.ports id)]) := by
  rw [tick_ready hr] at h
  split at h
  · next id hid =>
    cases h
    exact ⟨id, hid, by simp [schedulerView, tickEvents_issues]⟩
  · cases h

theorem schedulerView_withDelivery (s : State) (d : Option Delivery) :
    schedulerView (s.withDelivery d) = schedulerView s := rfl

/-- Two ticks that differ only in the delivery leave the scheduler alike and issue alike (42_response_dispatcher.md
R213). -/
theorem schedulerView_tick_withDelivery {s t t' : State} {d : Option Delivery} (h : exec .opTick s = .next t)
    (h' : exec .opTick (s.withDelivery d) = .next t') : schedulerView t = schedulerView t' := by
  cases hl : s.lc with
  | constructed => rw [exec_opTick_constructed hl] at h; cases h
  | stopped =>
    rw [exec_opTick_stopped hl] at h
    rw [exec_opTick_stopped (by simpa using hl)] at h'
    cases h; cases h'
    rw [schedulerView_withDelivery]
  | running =>
    rw [exec_opTick_running hl] at h
    rw [exec_opTick_running (by simpa using hl)] at h'
    cases hr : s.ports.ready with
    | false =>
      rw [tick_idle hr] at h
      rw [tick_idle (by simpa using hr)] at h'
      cases h; cases h'
      rw [schedulerView_receivePhase, schedulerView_receivePhase, schedulerView_withDelivery]
    | true =>
      obtain ⟨id, hid, ht⟩ := schedulerView_tick_ready hr h
      obtain ⟨id', hid', ht'⟩ := schedulerView_tick_ready (by simpa using hr) h'
      have same : id = id' := by
        rw [rewind_withDelivery, withDelivery_activeList, withDelivery_cursor, hid] at hid'
        exact Option.some.inj hid'
      rw [ht, ht', same]
      simp [rewind_withDelivery, build_withDelivery]

/-- Settles O59: a response row emits what dispatching its frame emits, and a tick's effect on the scheduler is that of
its send phase. -/
theorem responsesNeverTouchTheScheduler : Obligations.ResponsesNeverTouchTheScheduler := by
  refine ⟨fun frame i s s' hp hd => ?_, fun p d => ⟨dispatch_not_tx p d, fun hd => ?_⟩, fun s t t' d h h' => ?_⟩
  · cases hd
    refine ⟨dispatch s.params ⟨frame, .valid⟩, dispatch_not_tx _ _, exec_decodeResponse s frame, ?_⟩
    rw [hp]
    exact exec_decodeResponse s' frame
  · rw [dispatch_of_not_valid p hd]
    rfl
  · exact schedulerView_eq_iff.mp (schedulerView_tick_withDelivery h h')

end Sys2Proof.Machine
end

section
/-! How START chooses the repeating list and what it writes (43_scheduler.md R241, 10_state.md R24). -/

namespace Sys2Proof.Machine

/-- 10_state.md R24: an empty `CFG_REP` is corrected to the number of Status alone. -/
theorem effectiveRep_of_cfgRep_nil {s : State} (h : s.cfgRep = []) : s.effectiveRep = [s.params.idMap.status] := by
  simp [State.effectiveRep, h, Config.IdMap.idOf]

theorem effectiveRep_of_cfgRep_ne_nil {s : State} (h : s.cfgRep ≠ []) : s.effectiveRep = s.cfgRep := by
  simp [State.effectiveRep, h]

theorem exec_opStart_constructed {s : State} (h : s.lc = .constructed) : exec .opStart s = .next s.started := by
  simp only [exec, execOpStart, h]

/-- Settles O39: START writes `started`, and `CFG_REP` being empty or not decides its effective repeating list. -/
theorem startSetsTheScheduler : Obligations.StartSetsTheScheduler := by
  refine fun s hl => ⟨fun hrep => ?_, fun hrep => ?_⟩
  · rw [exec_opStart_constructed hl, State.started, effectiveRep_of_cfgRep_nil hrep]
  · rw [exec_opStart_constructed hl, State.started, effectiveRep_of_cfgRep_ne_nil hrep]

end Sys2Proof.Machine
end

section
/-! What a request row returns, by the name of the row: the frame of its type, number and payload, or the failure of
MaxTSet without its parameter (41_request_builder.md R133 to R161). -/

namespace Sys2Proof.Machine

/-- The payload of a name's request (41_request_builder.md R133 to R160). -/
def requestPayload (p : Config.Params) (ports : Ports) (n : MsgName) : Payload :=
  match n with
  | .status => statusPayload ports.flags
  | .tSet | .tsetCH2 => encodeFixedPoint p.encMode (setpointOrZero (ports.setpoint (p.idMap.idOf n)))
  | _ => 0

/-- Every name of `BUILD_SET` builds a frame. -/
theorem buildNamed_eq (p : Config.Params) (ports : Ports) (n : MsgName) (hn : n = .maxTSet → p.maxTSetReq = true) :
    buildNamed p ports n = .ok (makeFrame p (requestType p n) (p.idMap.idOf n) (requestPayload p ports n)) := by
  cases n with
  | maxTSet => exact if_pos (hn rfl)
  | _ => rfl

theorem buildNamed_maxTSet_off {p : Config.Params} (ports : Ports) (h : p.maxTSetReq = false) :
    buildNamed p ports .maxTSet = .fail p.idMap.maxTSet :=
  if_neg (by simp [h])

/-- A request row returns what its builder returns. -/
theorem exec_reqOf (n : MsgName) (s : State) :
    exec (Instr.reqOf n) s = .next (s.deliver (buildNamed s.params s.ports n)) := by
  cases n <;> rfl

/-- The frame a request row returns in `BUILD_SET`. -/
theorem exec_reqOf_built {n : MsgName} {s : State} (hn : n = .maxTSet → s.params.maxTSetReq = true) :
    exec (Instr.reqOf n) s = .next (s.returning (.built
      (makeFrame s.params (requestType s.params n) (s.params.idMap.idOf n) (requestPayload s.params s.ports n)))) := by
  rw [exec_reqOf, buildNamed_eq _ _ _ hn, State.deliver]

theorem exec_reqMaxTSet_off {s : State} (h : s.params.maxTSetReq = false) :
    exec .reqMaxTSet s = .next (s.returning (.unknownRequest s.params.idMap.maxTSet)) := by
  rw [show Instr.reqMaxTSet = Instr.reqOf .maxTSet from rfl, exec_reqOf, buildNamed_maxTSet_off _ h, State.deliver]

/-- Only a name of `BUILD_SET` returns a frame. -/
theorem exec_reqOf_returns_frame {n : MsgName} {s t : State} {frame : Frame} (h : exec (Instr.reqOf n) s = .next t)
    (ht : t.returned = .built frame) :
    (n = .maxTSet → s.params.maxTSetReq = true) ∧
      frame = makeFrame s.params (requestType s.params n) (s.params.idMap.idOf n)
        (requestPayload s.params s.ports n) := by
  have hn : n = .maxTSet → s.params.maxTSetReq = true := by
    rintro rfl
    by_contra hoff
    rw [show Instr.reqOf .maxTSet = Instr.reqMaxTSet from rfl, exec_reqMaxTSet_off (by simpa using hoff)] at h
    cases h
    cases ht
  refine ⟨hn, ?_⟩
  rw [exec_reqOf_built hn] at h
  cases h
  exact (Returned.built.inj ht).symm

theorem flagBit_eq_true {a : Option Bool} : flagBit a = true ↔ a = some true := by
  cases a <;> simp [flagBit]

/-- One flag at its place has that bit and no other. -/
theorem flagAt_getLsbD (b : Bool) {k : Nat} (hk : k < 16) (i : Nat) :
    ((BitVec.ofBool b).zeroExtend 16 <<< k).getLsbD i = (b && decide (i = k)) := by
  rw [BitVec.getLsbD_shiftLeft, BitVec.getLsbD_setWidth, BitVec.getLsbD_ofBool]
  by_cases h : i = k
  · simp [h, hk]
  · by_cases hlt : i < k
    · simp [h, hlt]
    · simp [h, show i - k ≠ 0 by omega]

/-- The bits of the Status request's payload (30_encoding.md R79). -/
theorem statusPayload_getLsbD (f : FlagInputs) (i : Nat) :
    (statusPayload f).getLsbD i =
      (flagBit f.chEnable && decide (i = 8) || flagBit f.dhwEnable && decide (i = 9) ||
        flagBit f.coolingEnable && decide (i = 10) || flagBit f.otcEnable && decide (i = 11) ||
        flagBit f.ch2Enable && decide (i = 12)) := by
  simp only [statusPayload, BitVec.getLsbD_or, flagAt_getLsbD _ (show 8 < 16 by decide),
    flagAt_getLsbD _ (show 9 < 16 by decide), flagAt_getLsbD _ (show 10 < 16 by decide),
    flagAt_getLsbD _ (show 11 < 16 by decide), flagAt_getLsbD _ (show 12 < 16 by decide)]

/-- The Status payload has no bit outside 8 to 12. -/
theorem statusPayload_outside (f : FlagInputs) {i : Nat} (hi : i < 8 ∨ 13 ≤ i) :
    (statusPayload f).getLsbD i = false := by
  rw [statusPayload_getLsbD]
  simp [show i ≠ 8 by omega, show i ≠ 9 by omega, show i ≠ 10 by omega, show i ≠ 11 by omega,
    show i ≠ 12 by omega]

end Sys2Proof.Machine
end

section
/-! Decoding and encoding are inverse to each other, family by family (30_encoding.md §1, §2): a request word is read by its
row's identifier and fixed bits, a response frame by its identifier, the rest by the port. -/

namespace Sys2Proof.Machine

/-- Any word with the identifier and the fixed bits of a row of `BUILD_SET` is read as that row. -/
theorem decodeRequest_assembled {p : Config.Params} (hp : p.wf) {n : MsgName}
    (hn : n = .maxTSet → p.maxTSetReq = true) (b : Bool) {data : Payload}
    (hread : n ≠ .status → n ≠ .tSet → n ≠ .tsetCH2 → data = 0)
    (hstatus : n = .status → ∀ i, i < 8 ∨ 13 ≤ i → data.getLsbD i = false) :
    decodeRequest p (assembled b (isWrite (requestType p n)) (p.idMap.idOf n) data) = .ok (Instr.reqOf n) := by
  rw [decodeRequest, frameId_assembled, requestName_idOf hp hn]
  exact if_pos (assembled_masked p n b data hread hstatus)

theorem encode_reqOf (p : Config.Params) (n : MsgName) :
    encode p (Instr.reqOf n) = requestCommand (requestMatch p n) := by
  cases n <;> rfl

theorem encode_rspOf (p : Config.Params) (n : MsgName) (frame : Frame) :
    encode p (Instr.rspOf n frame) = responseCommand frame := by
  cases n <;> rfl

theorem wellFormed_reqOf {p : Config.Params} {n : MsgName} :
    (Instr.reqOf n).wellFormed p = true ↔ (n = .maxTSet → p.maxTSetReq = true) := by
  cases n <;> simp [Instr.reqOf, Instr.wellFormed]

theorem wellFormed_rspOf_eq (p : Config.Params) (n : MsgName) (frame : Frame) :
    (Instr.rspOf n frame).wellFormed p = (frameId frame == p.idMap.idOf n) := by
  cases n <;> rfl

theorem wellFormed_rspOf {p : Config.Params} {n : MsgName} {frame : Frame} :
    (Instr.rspOf n frame).wellFormed p = true ↔ p.idMap.idOf n = frameId frame := by
  rw [wellFormed_rspOf_eq, beq_iff_eq, eq_comm]

theorem decode_encode_reqOf {p : Config.Params} (hp : p.wf) (n : MsgName)
    (h : (Instr.reqOf n).wellFormed p = true) : decode p (encode p (Instr.reqOf n)) = .ok (Instr.reqOf n) := by
  rw [encode_reqOf, requestMatch_eq]
  exact decodeRequest_assembled hp (wellFormed_reqOf.mp h) false (fun _ _ _ => rfl) fun _ _ _ => by simp

theorem decode_encode_reqUnknown {p : Config.Params} {id : MsgId} (h : (Instr.reqUnknown id).wellFormed p = true) :
    decode p (encode p (.reqUnknown id)) = .ok (.reqUnknown id) := by
  have hnone : requestName p id = none := by simpa [Instr.wellFormed, inBuildSet] using h
  show decodeRequest p (id.zeroExtend 32 <<< 16) = _
  rw [identifierWord_eq, decodeRequest, frameId_assembled, hnone]

theorem decode_encode_rspOf {p : Config.Params} (hp : p.wf) (n : MsgName) {frame : Frame}
    (h : (Instr.rspOf n frame).wellFormed p = true) :
    decode p (encode p (Instr.rspOf n frame)) = .ok (Instr.rspOf n frame) := by
  rw [encode_rspOf, decode_responseCommand, decodeResponse_of_idOf hp (wellFormed_rspOf.mp h)]

theorem decode_encode_rspUnexpected {p : Config.Params} {frame : Frame}
    (h : (Instr.rspUnexpected frame).wellFormed p = true) :
    decode p (encode p (.rspUnexpected frame)) = .ok (.rspUnexpected frame) := by
  have hnone : responseName p (frameId frame) = none := by simpa [Instr.wellFormed, inDispatchSet] using h
  exact (decode_responseCommand p frame).trans (by rw [decodeResponse_of_unnamed (responseName_none.mp hnone)])

/-- Settles O19, by the family of the row: a request word, a response frame, or a port that names the row. -/
theorem decodeOfEncodeIsTheInstruction : Obligations.DecodeOfEncodeIsTheInstruction := by
  intro p i hp h
  cases i with
  | reqStatus => exact decode_encode_reqOf hp .status h
  | reqTSet => exact decode_encode_reqOf hp .tSet h
  | reqTsetCH2 => exact decode_encode_reqOf hp .tsetCH2 h
  | reqSConfigSMemberIDcode => exact decode_encode_reqOf hp .sConfigSMemberIDcode h
  | reqRBPflags => exact decode_encode_reqOf hp .rbpFlags h
  | reqRelModLevel => exact decode_encode_reqOf hp .relModLevel h
  | reqCHPressure => exact decode_encode_reqOf hp .chPressure h
  | reqDHWFlowRate => exact decode_encode_reqOf hp .dhwFlowRate h
  | reqTboiler => exact decode_encode_reqOf hp .tboiler h
  | reqTdhw => exact decode_encode_reqOf hp .tdhw h
  | reqToutside => exact decode_encode_reqOf hp .toutside h
  | reqTret => exact decode_encode_reqOf hp .tret h
  | reqTstorage => exact decode_encode_reqOf hp .tstorage h
  | reqTcollector => exact decode_encode_reqOf hp .tcollector h
  | reqTflowCH2 => exact decode_encode_reqOf hp .tflowCH2 h
  | reqTdhw2 => exact decode_encode_reqOf hp .tdhw2 h
  | reqTexhaust => exact decode_encode_reqOf hp .texhaust h
  | reqTdhwSetUBTdhwSetLB => exact decode_encode_reqOf hp .tdhwSetUBTdhwSetLB h
  | reqMaxTSetUBMaxTSetLB => exact decode_encode_reqOf hp .maxTSetUBMaxTSetLB h
  | reqMaxTSet => exact decode_encode_reqOf hp .maxTSet h
  | reqBurnerStarts => exact decode_encode_reqOf hp .burnerStarts h
  | reqCHPumpStarts => exact decode_encode_reqOf hp .chPumpStarts h
  | reqDHWPumpValveStarts => exact decode_encode_reqOf hp .dhwPumpValveStarts h
  | reqDHWBurnerStarts => exact decode_encode_reqOf hp .dhwBurnerStarts h
  | reqBurnerOperationHours => exact decode_encode_reqOf hp .burnerOperationHours h
  | reqCHPumpOperationHours => exact decode_encode_reqOf hp .chPumpOperationHours h
  | reqDHWPumpValveOperationHours => exact decode_encode_reqOf hp .dhwPumpValveOperationHours h
  | reqDHWBurnerOperationHours => exact decode_encode_reqOf hp .dhwBurnerOperationHours h
  | reqUnknown id => exact decode_encode_reqUnknown h
  | rspStatus frame => exact decode_encode_rspOf hp .status h
  | rspTSet frame => exact decode_encode_rspOf hp .tSet h
  | rspTsetCH2 frame => exact decode_encode_rspOf hp .tsetCH2 h
  | rspSConfigSMemberIDcode frame => exact decode_encode_rspOf hp .sConfigSMemberIDcode h
  | rspRBPflags frame => exact decode_encode_rspOf hp .rbpFlags h
  | rspRelModLevel frame => exact decode_encode_rspOf hp .relModLevel h
  | rspCHPressure frame => exact decode_encode_rspOf hp .chPressure h
  | rspDHWFlowRate frame => exact decode_encode_rspOf hp .dhwFlowRate h
  | rspTboiler frame => exact decode_encode_rspOf hp .tboiler h
  | rspTdhw frame => exact decode_encode_rspOf hp .tdhw h
  | rspToutside frame => exact decode_encode_rspOf hp .toutside h
  | rspTret frame => exact decode_encode_rspOf hp .tret h
  | rspTstorage frame => exact decode_encode_rspOf hp .tstorage h
  | rspTcollector frame => exact decode_encode_rspOf hp .tcollector h
  | rspTflowCH2 frame => exact decode_encode_rspOf hp .tflowCH2 h
  | rspTdhw2 frame => exact decode_encode_rspOf hp .tdhw2 h
  | rspTexhaust frame => exact decode_encode_rspOf hp .texhaust h
  | rspTdhwSetUBTdhwSetLB frame => exact decode_encode_rspOf hp .tdhwSetUBTdhwSetLB h
  | rspMaxTSetUBMaxTSetLB frame => exact decode_encode_rspOf hp .maxTSetUBMaxTSetLB h
  | rspMaxTSet frame => exact decode_encode_rspOf hp .maxTSet h
  | rspBurnerStarts frame => exact decode_encode_rspOf hp .burnerStarts h
  | rspCHPumpStarts frame => exact decode_encode_rspOf hp .chPumpStarts h
  | rspDHWPumpValveStarts frame => exact decode_encode_rspOf hp .dhwPumpValveStarts h
  | rspDHWBurnerStarts frame => exact decode_encode_rspOf hp .dhwBurnerStarts h
  | rspBurnerOperationHours frame => exact decode_encode_rspOf hp .burnerOperationHours h
  | rspCHPumpOperationHours frame => exact decode_encode_rspOf hp .chPumpOperationHours h
  | rspDHWPumpValveOperationHours frame => exact decode_encode_rspOf hp .dhwPumpValveOperationHours h
  | rspDHWBurnerOperationHours frame => exact decode_encode_rspOf hp .dhwBurnerOperationHours h
  | rspUnexpected frame => exact decode_encode_rspUnexpected h
  | codecDecodeFlag frame i => exact if_pos (of_decide_eq_true h)
  | _ => rfl

/-- The two answers of the decoder at the request port. -/
theorem decodeRequest_ok {p : Config.Params} {w : Frame} {i : Instr} (h : decodeRequest p w = .ok i) :
    (∃ n, requestName p (frameId w) = some n ∧ i = Instr.reqOf n) ∨
    (requestName p (frameId w) = none ∧ i = .reqUnknown (frameId w)) := by
  unfold decodeRequest at h
  split at h
  · next n hn =>
    split at h
    · exact .inl ⟨n, hn, (Except.ok.inj h).symm⟩
    · cases h
  · next hn => exact .inr ⟨hn, (Except.ok.inj h).symm⟩

theorem decodeResponse_wellFormed (p : Config.Params) (frame : Frame) :
    (decodeResponse p frame).wellFormed p = true := by
  unfold decodeResponse
  cases hn : responseName p (frameId frame) with
  | some n => exact wellFormed_rspOf.mpr (responseName_some hn)
  | none => simp [Instr.wellFormed, inDispatchSet, hn]

theorem encode_decodeResponse (p : Config.Params) (frame : Frame) :
    encode p (decodeResponse p frame) = responseCommand frame := by
  unfold decodeResponse
  cases responseName p (frameId frame) with
  | some n => exact encode_rspOf p n frame
  | none => rfl

/-- Settles O20, port by port: the selection of a row at the request and the response port is its well-formedness. -/
theorem decodedInstructionsAreWellFormed : Obligations.DecodedInstructionsAreWellFormed := by
  rintro p ⟨port, word, index⟩ i h
  cases port with
  | request =>
    rcases decodeRequest_ok h with ⟨n, hn, rfl⟩ | ⟨hn, rfl⟩
    · exact ⟨wellFormed_reqOf.mpr (requestName_some hn).2, by rw [encode_reqOf]; rfl, fun hport => by cases hport⟩
    · exact ⟨by simp [Instr.wellFormed, inBuildSet, hn], rfl, fun hport => by cases hport⟩
  | response =>
    obtain rfl := Except.ok.inj h
    refine ⟨decodeResponse_wellFormed p word, ?_, fun _ => ?_⟩ <;> rw [encode_decodeResponse] <;> rfl
  | codec f =>
    cases f with
    | decodeFlag =>
      simp only [decode] at h
      split at h
      · next hi =>
        obtain rfl := Except.ok.inj h
        exact ⟨decide_eq_true hi, rfl, fun hport => by cases hport⟩
      · cases h
    | _ =>
      obtain rfl := Except.ok.inj h
      exact ⟨rfl, rfl, fun hport => by cases hport⟩
  | lifecycle o =>
    cases o <;> obtain rfl := Except.ok.inj h <;> exact ⟨rfl, rfl, fun hport => by cases hport⟩

/-- Only a setpoint and Status have payload bits in their request. -/
theorem requestPayload_read {p : Config.Params} {ports : Ports} {n : MsgName} (h1 : n ≠ .status) (h2 : n ≠ .tSet)
    (h3 : n ≠ .tsetCH2) : requestPayload p ports n = 0 := by
  cases n with
  | status => exact absurd rfl h1
  | tSet => exact absurd rfl h2
  | tsetCH2 => exact absurd rfl h3
  | _ => rfl

/-- Settles O22: a built frame has the identifier and the fixed bits of the row that built it. -/
theorem builtFramesDecodeToTheirOwnRow : Obligations.BuiltFramesDecodeToTheirOwnRow := by
  intro s t n frame hp h ht
  obtain ⟨hn, rfl⟩ := exec_reqOf_returns_frame h ht
  rw [makeFrame_eq]
  refine decodeRequest_assembled hp hn _ requestPayload_read ?_
  rintro rfl i hi
  exact statusPayload_outside s.ports.flags hi

/-- Settles O18: nine words read as their rows, two rejected, by evaluating the decoder on each. -/
theorem tableWordsDecodeToTheirRows : Obligations.TableWordsDecodeToTheirRows := by
  refine ⟨?_, ?_, ?_, ?_, ?_, ?_, ?_, ?_, ?_, ?_, ?_⟩ <;> rfl

end Sys2Proof.Machine
end

section
/-! The flag test, the signed bytes and the encode function of the codec (40_codec.md R103, R104, R106 to R114). -/

namespace Sys2Proof.Machine

theorem exec_codecDecodeFlag (frame : Frame) (i : Nat) (s : State) :
    exec (.codecDecodeFlag frame i) s =
      if i < 32 then .next (s.returning (.bool (decodeFlag frame i))) else .refused .flagIndexOutOfRange := rfl

theorem exec_codecEncodeFixedPoint (v : Binary32) (s : State) :
    exec (.codecEncodeFixedPoint v) s = .next (s.returning (.payload (encodeFixedPoint s.params.encMode v))) := rfl

/-- Settles O5: the index decides between the tested bit and the refusal. -/
theorem decodeFlagTestsAnyFrameBit : Obligations.DecodeFlagTestsAnyFrameBit := by
  refine fun frame i s => ⟨fun hi => ?_, fun hi => ?_⟩
  · rw [exec_codecDecodeFlag, if_pos hi, decodeFlag_eq, State.returning]
  · rw [exec_codecDecodeFlag, if_neg (by omega)]

/-- A field of a frame is the same in two frames that agree on the field's bits. -/
theorem extractLsb'_congr {f g : Frame} {start len : Nat}
    (h : ∀ i, start ≤ i → i < start + len → bitSet f i = bitSet g i) :
    f.extractLsb' start len = g.extractLsb' start len := by
  refine BitVec.eq_of_getLsbD_eq fun i hi => ?_
  rw [BitVec.getLsbD_extractLsb', BitVec.getLsbD_extractLsb', ← bitSet_eq_getLsbD, ← bitSet_eq_getLsbD,
    h _ (by omega) (by omega)]

/-- Settles O6: each decode reads its own byte field, which is equal when its bits are. -/
theorem signedByteDecodesDependOnTheirByteOnly : Obligations.SignedByteDecodesDependOnTheirByteOnly := by
  refine fun f g s => ⟨fun h => ?_, fun h => ?_⟩
  · rw [exec_codecDecodeHighByteSigned, exec_codecDecodeHighByteSigned, decodeHighByteSigned, decodeHighByteSigned,
      extractLsb'_congr h]
  · rw [exec_codecDecodeLowByteSigned, exec_codecDecodeLowByteSigned, decodeLowByteSigned, decodeLowByteSigned,
      extractLsb'_congr fun i _ hi => h i (by omega)]

/-! ### The encode function -/

/-- Settles O7: inside the domain the encoding truncates by `trunc`. -/
theorem encodeWrapTruncatesTowardZeroAndWraps : Obligations.EncodeWrapTruncatesTowardZeroAndWraps := by
  intro v q s hmode hv hlo hhi
  refine ⟨trunc (q * 256), trunc_truncatesTo _, ?_⟩
  rw [exec_codecEncodeFixedPoint, hmode, encodeFixedPoint_wrap hv hlo hhi, State.returning]

/-- Encoding under the clamp a value whose clamp is a number between 0 and 100: it is inside the domain. -/
theorem encodeFixedPoint_clamp {v : Binary32} {q : Rat} (hv : clamp (binary32Number v) = .finite q) (h0 : 0 ≤ q)
    (h100 : q ≤ 100) : encodeFixedPoint .clamp0to100 v = BitVec.ofInt 16 (trunc (q * 256)) := by
  simp only [encodeFixedPoint, hv]
  exact if_pos ⟨by linarith, by linarith⟩

/-- The clamp of a number is its limit to 0 to 100. -/
theorem clamp_finite (q : Rat) : clamp (.finite q) = .finite (max 0 (min q 100)) := by
  rw [clamp]
  congr 1
  split
  · next h => rw [min_eq_left (by linarith), max_eq_left h.le]
  · split
    · next h => rw [min_eq_right h.le, max_eq_right (by norm_num)]
    · next h0 h100 => rw [min_eq_left (not_lt.mp h100), max_eq_right (not_lt.mp h0)]

theorem encodeFixedPoint_clamp_nan {v : Binary32} (hv : binary32Number v = .nan) :
    encodeFixedPoint .clamp0to100 v = Config.encOutOfRange .nan := by
  simp only [encodeFixedPoint, hv, clamp]

/-- Settles O8: a number and an infinity are clamped to a number of 0 to 100, which is in the domain; NaN is not. -/
theorem encodeClampLimitsTo0To100 : Obligations.EncodeClampLimitsTo0To100 := by
  intro v s hmode
  simp only [exec_codecEncodeFixedPoint, hmode]
  refine ⟨fun q hv => ?_, fun hv => ?_, fun hv => ?_, fun hv => ?_⟩
  · refine ⟨trunc (max 0 (min q 100) * 256), trunc_truncatesTo _, ?_⟩
    rw [encodeFixedPoint_clamp (by rw [hv, clamp_finite]) (le_max_left _ _)
      (max_le (by norm_num) (min_le_right _ _)), State.returning]
  · rw [encodeFixedPoint_clamp (q := 0) (by rw [hv]; rfl) le_rfl (by norm_num),
      show (0 : Rat) * 256 = (0 : Int) by norm_num, trunc_intCast, State.returning]
    rfl
  · rw [encodeFixedPoint_clamp (q := 100) (by rw [hv]; rfl) (by norm_num) le_rfl,
      show (100 : Rat) * 256 = (25600 : Int) by norm_num, trunc_intCast, State.returning]
    rfl
  · rw [encodeFixedPoint_clamp_nan hv, State.returning]

/-- Outside the domain the encoding is the draw (40_codec.md R109). -/
theorem encodeFixedPoint_wrap_out {v : Binary32}
    (h : binary32Number v = .nan ∨ (∃ b, binary32Number v = .infinity b) ∨
      ∃ q : Rat, binary32Number v = .finite q ∧ (q * 256 ≤ -2147483648 ∨ 2147483648 ≤ q * 256)) :
    encodeFixedPoint .wrap v = Config.encOutOfRange (binary32Number v) := by
  rcases h with hv | ⟨b, hv⟩ | ⟨q, hv, hq⟩ <;> simp only [encodeFixedPoint, hv]
  refine if_neg fun hin => ?_
  norm_num at hin
  rcases hq with hq | hq <;> linarith [hin.1, hin.2]

/-- The bits of the operand matter only through the number they stand for (40_codec.md R114). -/
theorem encodeFixedPoint_congr (mode : Config.EncMode) {v v' : Binary32} (h : binary32Number v = binary32Number v') :
    encodeFixedPoint mode v = encodeFixedPoint mode v' := by
  simp only [encodeFixedPoint, h]

/-- Settles O9: out of the domain the draw, and in either mode a function of the number alone. -/
theorem encodeOutOfDomainReturnsTheDraw : Obligations.EncodeOutOfDomainReturnsTheDraw := by
  refine ⟨fun v s hmode hv => ?_, fun v v' s hv => ?_⟩
  · rw [exec_codecEncodeFixedPoint, hmode, encodeFixedPoint_wrap_out hv, State.returning]
  · rw [exec_codecEncodeFixedPoint, exec_codecEncodeFixedPoint, encodeFixedPoint_congr _ hv]

/-- A 16-bit word holds every integer of its signed range. -/
theorem toInt_ofInt_16 {n : Int} (hlo : -32768 ≤ n) (hhi : n ≤ 32767) : (BitVec.ofInt 16 n).toInt = n := by
  rw [BitVec.toInt_ofInt]
  exact Int.bmod_eq_of_le (by norm_num; omega) (by norm_num; omega)

/-- Settles O10: scaling n/256 gives the integer n, which the payload holds exactly. -/
theorem fixedPointRoundTripIsExact : Obligations.FixedPointRoundTripIsExact := by
  intro s n v hmode hlo hhi hv
  have hscale : (n : Rat) / 256 * 256 = n := div_mul_cancel₀ _ (by norm_num)
  have hlo' : (-32768 : Rat) ≤ n := by exact_mod_cast hlo
  have hhi' : (n : Rat) ≤ 32767 := by exact_mod_cast hhi
  refine ⟨BitVec.ofInt 16 n, ?_, fun frame s' hf => ?_⟩
  · rw [exec_codecEncodeFixedPoint, hmode, encodeFixedPoint_wrap hv (by linarith) (by linarith), hscale,
      trunc_intCast, State.returning]
  · rw [exec_codecDecodeFixedPoint, decodeFixedPoint, hf, toInt_ofInt_16 hlo hhi, Rat.mkRat_eq_div, State.returning]
    rfl

/-! ### The numbers of a dispatch -/

/-- The number an event publishes or logs, if it has one. -/
def Event.number? (e : Event) : Option Rat :=
  match e with
  | .pubS _ q => some q
  | .diag (.logEcho _ q) => some q
  | _ => none

/-- A number of one of the payload formats: an integer of at most 16 bits over 1 or 256 (30_encoding.md R78). -/
def IsReading (q : Rat) : Prop :=
  ∃ (n : Int) (k : Nat), k ≤ 8 ∧ -65536 < n ∧ n < 65536 ∧ q = (n : Rat) / 2 ^ k

theorem isReading_int {n : Int} (hlo : -65536 < n) (hhi : n < 65536) : IsReading n :=
  ⟨n, 0, by omega, hlo, hhi, by simp⟩

theorem signedOf_bounds {bits n : Nat} (hbits : bits ≤ 16) (hn : n < 2 ^ bits) :
    -65536 < signedOf bits n ∧ signedOf bits n < 65536 := by
  have hpow : 2 ^ bits ≤ 2 ^ 16 := Nat.pow_le_pow_right (by omega) hbits
  have hhalf : 1 ≤ 2 ^ (bits - 1) := Nat.one_le_two_pow
  have hcast : (2 : Int) ^ bits = ((2 ^ bits : Nat) : Int) := by norm_num
  rw [signedOf, hcast]
  by_cases h : n < 2 ^ (bits - 1)
  · rw [if_pos h]
    omega
  · rw [if_neg h]
    omega

theorem isReading_decodeSigned16 (frame : Frame) : IsReading (decodeSigned16 frame) := by
  obtain ⟨h1, h2⟩ := signedOf_bounds (le_refl 16) (Nat.mod_lt frame.toNat (by norm_num))
  rw [decodeSigned16_eq]
  exact isReading_int h1 h2

theorem isReading_decodeFixedPoint (frame : Frame) : IsReading (decodeFixedPoint frame) := by
  obtain ⟨h1, h2⟩ := signedOf_bounds (le_refl 16) (Nat.mod_lt frame.toNat (by norm_num))
  exact ⟨_, 8, le_refl 8, h1, h2, by rw [decodeFixedPoint_eq]; norm_num⟩

theorem isReading_decodeUint16 (frame : Frame) : IsReading (decodeUint16 frame) := by
  rw [decodeUint16_eq]
  exact isReading_int (by omega) (by omega)

theorem isReading_decodeHighByteSigned (frame : Frame) : IsReading (decodeHighByteSigned frame) := by
  obtain ⟨h1, h2⟩ := signedOf_bounds (show 8 ≤ 16 by decide) (Nat.mod_lt (frame.toNat / 2 ^ 8) (by norm_num))
  rw [decodeHighByteSigned_eq]
  exact isReading_int h1 h2

theorem isReading_decodeLowByteSigned (frame : Frame) : IsReading (decodeLowByteSigned frame) := by
  obtain ⟨h1, h2⟩ := signedOf_bounds (show 8 ≤ 16 by decide) (Nat.mod_lt frame.toNat (by norm_num))
  rw [decodeLowByteSigned_eq]
  exact isReading_int h1 h2

/-- Every number among some events is a reading. -/
def OnlyReadings (es : List Event) : Prop := ∀ e ∈ es, ∀ q, e.number? = some q → IsReading q

theorem onlyReadings_of_no_number {es : List Event} (h : ∀ e ∈ es, e.number? = none) : OnlyReadings es :=
  fun e he q hq => by rw [h e he] at hq; cases hq

theorem onlyReadings_publish {k : SensorKind} {q : Rat} (hq : IsReading q) : OnlyReadings [.pubS k q] := by
  simpa [OnlyReadings, Event.number?] using hq

theorem onlyReadings_logEcho (id : MsgId) (frame : Frame) : OnlyReadings (logEcho id frame) := by
  simpa [OnlyReadings, Event.number?, logEcho, raise] using isReading_decodeFixedPoint frame

theorem onlyReadings_publishPair (ub lb : SensorKind) (frame : Frame) : OnlyReadings (publishPair ub lb frame) := by
  simpa [OnlyReadings, Event.number?, publishPair] using
    ⟨isReading_decodeHighByteSigned frame, isReading_decodeLowByteSigned frame⟩

/-- Every rule's numbers are readings, by the payload format the rule reads. -/
theorem onlyReadings_respondNamed (p : Config.Params) (n : MsgName) (frame : Frame) :
    OnlyReadings (respondNamed p n frame) := by
  cases n with
  | status | sConfigSMemberIDcode | rbpFlags =>
    refine onlyReadings_of_no_number ?_
    simp [respondNamed, respondStatus, respondSConfigSMemberIDcode, respondRBPflags, publishFlag, Event.number?]
  | tSet | tsetCH2 => exact onlyReadings_logEcho _ frame
  | tdhwSetUBTdhwSetLB | maxTSetUBMaxTSetLB => exact onlyReadings_publishPair _ _ frame
  | tcollector | texhaust => exact onlyReadings_publish (isReading_decodeSigned16 frame)
  | burnerStarts | chPumpStarts | dhwPumpValveStarts | dhwBurnerStarts | burnerOperationHours | chPumpOperationHours
  | dhwPumpValveOperationHours | dhwBurnerOperationHours =>
    exact onlyReadings_publish (isReading_decodeUint16 frame)
  | relModLevel | chPressure | dhwFlowRate | tboiler | tdhw | toutside | tret | tstorage | tflowCH2 | tdhw2
  | maxTSet => exact onlyReadings_publish (isReading_decodeFixedPoint frame)

theorem onlyReadings_dispatch (p : Config.Params) (d : Delivery) : OnlyReadings (dispatch p d) := by
  unfold dispatch respond
  split
  · split
    · exact onlyReadings_respondNamed p _ d.frame
    · exact onlyReadings_of_no_number (by simp [respondUnexpected, raise, Event.number?])
  · exact onlyReadings_of_no_number (by simp [raise, Event.number?])

/-- Settles O11: every number of a dispatch is a reading, and binary32 holds every reading. -/
theorem everyPublishedNumberIsABinary32 : Obligations.EveryPublishedNumberIsABinary32 := by
  intro p d q h
  have hq : IsReading q := by
    rcases h with ⟨k, hk⟩ | ⟨id, hid⟩
    · exact onlyReadings_dispatch p d _ hk q rfl
    · exact onlyReadings_dispatch p d _ hid q rfl
  obtain ⟨n, k, hk, hlo, hhi, rfl⟩ := hq
  exact binary32_of_scaled n k hk hlo hhi

end Sys2Proof.Machine
end

section
/-! What the request rows return, by the kind of the request: Status, a setpoint, a read, MaxTSet, and the failure outside
`BUILD_SET` (41_request_builder.md §2 to §6). -/

namespace Sys2Proof.Machine

/-- A payload bit of an assembled request. -/
theorem bitSet_makeFrame (p : Config.Params) (t : Config.MsgType) (id : MsgId) (data : Payload) {i : Nat}
    (hi : i < 16) : bitSet (makeFrame p t id data) i = data.getLsbD i :=
  shape_bit (makeFrame_shape p t id data) hi

theorem exec_reqStatus (s : State) :
    exec .reqStatus s = .next (s.returning (.built (makeFrame s.params s.params.statusType s.params.idMap.status
      (statusPayload s.ports.flags)))) := rfl

/-- Settles O12: the frame's payload bits are those of the flags' payload. -/
theorem statusRequestCarriesTheFiveFlags : Obligations.StatusRequestCarriesTheFiveFlags := by
  intro s
  refine ⟨_, _, exec_reqStatus s, makeFrame_shape _ _ _ _, ?_⟩
  have hbit := @bitSet_makeFrame s.params s.params.statusType s.params.idMap.status (statusPayload s.ports.flags)
  refine ⟨?_, ?_, ?_, ?_, ?_, fun i hi => ?_⟩
  iterate 5
    rw [hbit (by decide), statusPayload_getLsbD, ← flagBit_eq_true]
    simp
  rw [hbit (by omega)]
  exact statusPayload_outside s.ports.flags (by omega)

/-- A setpoint request carries the encoding of the answer to its own query, an absent answer read as 0.0. -/
theorem exec_setpointRequest {s : State} {i : Instr} {n : MsgName}
    (h : (i, n) ∈ [(Instr.reqTSet, MsgName.tSet), (Instr.reqTsetCH2, MsgName.tsetCH2)]) :
    exec i s = .next (s.returning (.built (makeFrame s.params .writeData (s.params.idMap.idOf n)
      (encodeFixedPoint s.params.encMode (setpointOrZero (s.ports.setpoint (s.params.idMap.idOf n))))))) := by
  simp only [List.mem_cons, Prod.mk.injEq, List.not_mem_nil, or_false] at h
  rcases h with ⟨rfl, rfl⟩ | ⟨rfl, rfl⟩ <;> rfl

/-- The word 0 stands for 0.0, which both range modes encode as 0. -/
theorem encodeFixedPoint_zero (mode : Config.EncMode) : encodeFixedPoint mode 0 = 0 := by
  have hzero : binary32Number 0 = .finite 0 := by decide +kernel
  have htrunc : trunc (0 * 256) = 0 := by decide +kernel
  cases mode with
  | wrap => rw [encodeFixedPoint_wrap hzero (by norm_num) (by norm_num), htrunc]; rfl
  | clamp0to100 => rw [encodeFixedPoint_clamp (by rw [hzero]; rfl) le_rfl (by norm_num), htrunc]; rfl

/-- Settles O13: the payload is what the codec returns for the query's answer, or for 0.0. -/
theorem setpointRequestsCarryTheEncodedSetpoint : Obligations.SetpointRequestsCarryTheEncodedSetpoint := by
  intro s i n h
  refine ⟨_, _, exec_setpointRequest h, makeFrame_shape _ _ _ _, fun v hv => ?_, fun hnone => ?_⟩
  · rw [exec_codecEncodeFixedPoint, Ports.setpoint, hv, setpointOrZero, Option.getD_some, State.returning]
  · rw [Ports.setpoint, hnone, setpointOrZero, Option.getD_none, encodeFixedPoint_zero]

/-- A name whose request is a read with no payload of its own. -/
def isRead (n : MsgName) : Bool := n != .status && n != .tSet && n != .tsetCH2

theorem exec_readRequest {n : MsgName} {s : State} (hread : isRead n = true)
    (hn : n = .maxTSet → s.params.maxTSetReq = true) :
    exec (Instr.reqOf n) s = .next (s.returning (.built
      (makeFrame s.params .readData (s.params.idMap.idOf n) 0))) := by
  rw [exec_reqOf_built hn]
  cases n with
  | status | tSet | tsetCH2 => cases hread
  | _ => rfl

/-- A pair from a list whose pairs are all a read and its row. -/
theorem readRow_of_mem {rows : List (Instr × MsgName)} {i : Instr} {n : MsgName}
    (hrows : ∀ r ∈ rows, r.1 = Instr.reqOf r.2 ∧ isRead r.2 = true ∧ r.2 ≠ .maxTSet) (h : (i, n) ∈ rows) :
    i = Instr.reqOf n ∧ isRead n = true ∧ n ≠ .maxTSet := hrows _ h

/-- Settles O14: each listed row is the row of its name, and none of the names is a setpoint, Status or MaxTSet. -/
theorem readRequestsAreZeroPayloadReads : Obligations.ReadRequestsAreZeroPayloadReads := by
  intro s i n h
  obtain ⟨rfl, hread, hmax⟩ := readRow_of_mem (by decide) h
  exact ⟨_, exec_readRequest hread fun hn => absurd hn hmax, makeFrame_shape _ _ _ _⟩

/-- Settles O15: with the parameter MaxTSet is one of the reads, without it the build fails. -/
theorem maxTSetRequestDependsOnItsParameter : Obligations.MaxTSetRequestDependsOnItsParameter := by
  refine fun s => ⟨fun hon => ?_, exec_reqMaxTSet_off⟩
  exact ⟨_, exec_readRequest (n := .maxTSet) rfl fun _ => hon, makeFrame_shape _ _ _ _⟩

theorem exec_reqUnknown (id : MsgId) (s : State) :
    exec (.reqUnknown id) s = .next (s.returning (.unknownRequest id)) := rfl

/-- Settles O16: selection finds the only name of `BUILD_SET` with the number, or none. -/
theorem unknownIdentifiersFailWithoutAFrame : Obligations.UnknownIdentifiersFailWithoutAFrame := by
  intro s id hp
  refine ⟨exec_reqUnknown id s, fun hnone => ?_, fun n hid hn => ?_⟩
  · have : requestName s.params id = none := requestName_none.mpr fun n hn hid => by
      obtain ⟨rfl, hoff⟩ := hnone n hid
      simp [hn rfl] at hoff
    rw [requestInstr, this]
  · rw [requestInstr, ← hid, requestName_idOf hp hn]

/-- A builder reads the parameters and, by its name, the flags or its own setpoint answer. -/
theorem buildNamed_congr {p : Config.Params} {ports ports' : Ports} {n : MsgName}
    (hflags : n = .status → ports.flags = ports'.flags)
    (htSet : n = .tSet → ports.setpoint p.idMap.tSet = ports'.setpoint p.idMap.tSet)
    (htsetCH2 : n = .tsetCH2 → ports.setpoint p.idMap.tsetCH2 = ports'.setpoint p.idMap.tsetCH2) :
    buildNamed p ports n = buildNamed p ports' n := by
  cases n with
  | status => simp only [buildNamed, buildStatus, hflags rfl]
  | tSet => simp only [buildNamed, buildTSet, setpointRequest, Config.IdMap.idOf, htSet rfl]
  | tsetCH2 => simp only [buildNamed, buildTsetCH2, setpointRequest, Config.IdMap.idOf, htsetCH2 rfl]
  | _ => rfl

/-- Settles O17: a row returns its builder's result, which is the same for the same inputs. -/
theorem buildersReadOnlyTheirOwnInputs : Obligations.BuildersReadOnlyTheirOwnInputs := by
  intro n s s' t t' hparams hflags htSet htsetCH2 h h'
  rw [exec_reqOf] at h h'
  cases h
  cases h'
  rw [← hparams, buildNamed_congr hflags htSet htsetCH2]
  rfl

end Sys2Proof.Machine
end

section
/-! What each response row emits (42_response_dispatcher.md R185 to R212): the flags by the frame's bits, the numbers by the
frame's number. -/

namespace Sys2Proof.Machine

theorem publishFlag_eq (k : BinaryKind) (frame : Frame) (i : Nat) : publishFlag k frame i = .pubB k (bitSet frame i) := by
  rw [publishFlag, decodeFlag_eq]

theorem publishFixedPoint_eq (k : SensorKind) (frame : Frame) :
    publishFixedPoint k frame = [.pubS k ((signedOf 16 (frame.toNat % 2 ^ 16) : Rat) / 256)] := by
  rw [publishFixedPoint, decodeFixedPoint_eq]

theorem publishSigned16_eq (k : SensorKind) (frame : Frame) :
    publishSigned16 k frame = [.pubS k (signedOf 16 (frame.toNat % 2 ^ 16) : Rat)] := by
  rw [publishSigned16, decodeSigned16_eq]

theorem publishUint16_eq (k : SensorKind) (frame : Frame) :
    publishUint16 k frame = [.pubS k ((frame.toNat % 2 ^ 16 : Nat) : Rat)] := by
  rw [publishUint16, decodeUint16_eq, Int.cast_natCast]

theorem publishPair_eq (ub lb : SensorKind) (frame : Frame) :
    publishPair ub lb frame = [.pubS ub (signedOf 8 (frame.toNat / 2 ^ 8 % 2 ^ 8) : Rat),
      .pubS lb (signedOf 8 (frame.toNat % 2 ^ 8) : Rat)] := by
  rw [publishPair, decodeHighByteSigned_eq, decodeLowByteSigned_eq]

theorem logEcho_eq (id : MsgId) (frame : Frame) :
    logEcho id frame = [.diag (.logEcho id ((signedOf 16 (frame.toNat % 2 ^ 16) : Rat) / 256))] := by
  rw [logEcho, raise, decodeFixedPoint_eq]

/-- Settles O24: the decoded flags are the frame's bits. -/
theorem statusResponsePublishesSevenFlags : Obligations.StatusResponsePublishesSevenFlags := by
  intro frame s
  simp only [← publishFlag_eq]
  exact exec_rspOf .status frame s

/-- Settles O25: both rows are the echo of the f8.8 reading under their own number. -/
theorem setpointResponsesAreOnlyLogged : Obligations.SetpointResponsesAreOnlyLogged := by
  intro frame s
  simp only [← logEcho_eq]
  exact ⟨exec_rspOf .tSet frame s, exec_rspOf .tsetCH2 frame s⟩

/-- The slave-configuration flags stand in the byte the parameter names (30_encoding.md R81). -/
theorem configFlagBase_eq {b : Config.FlagByte} {base : Nat} (h : (b = .lb ∧ base = 0) ∨ (b = .hb ∧ base = 8)) :
    base = configFlagBase b := by
  rcases h with ⟨rfl, rfl⟩ | ⟨rfl, rfl⟩ <;> rfl

/-- Settles O26: the parameter's byte is the base of the six bits. -/
theorem configResponsePublishesSixFlags : Obligations.ConfigResponsePublishesSixFlags := by
  intro frame s base hbase
  rw [configFlagBase_eq hbase]
  simp only [← publishFlag_eq]
  exact exec_rspOf .sConfigSMemberIDcode frame s

/-- Settles O27: the decoded flags are the frame's bits. -/
theorem remoteParameterResponsePublishesFourFlags : Obligations.RemoteParameterResponsePublishesFourFlags := by
  intro frame s
  simp only [← publishFlag_eq]
  exact exec_rspOf .rbpFlags frame s

/-- Settles O28: each row of the list publishes the f8.8 reading under its own kind. -/
theorem analogResponsesPublishFixedPoint : Obligations.AnalogResponsesPublishFixedPoint := by
  intro frame s i k h
  rw [← publishFixedPoint_eq]
  simp only [List.mem_cons, Prod.mk.injEq, List.not_mem_nil, or_false] at h
  rcases h with ⟨rfl, rfl⟩ | ⟨rfl, rfl⟩ | ⟨rfl, rfl⟩ | ⟨rfl, rfl⟩ | ⟨rfl, rfl⟩ | ⟨rfl, rfl⟩ | ⟨rfl, rfl⟩ | ⟨rfl, rfl⟩ |
    ⟨rfl, rfl⟩ | ⟨rfl, rfl⟩ | ⟨rfl, rfl⟩ <;> rfl

/-- Settles O29: both rows publish the s16 reading. -/
theorem collectorAndExhaustPublishUnscaled : Obligations.CollectorAndExhaustPublishUnscaled := by
  intro frame s
  rw [← publishSigned16_eq, ← publishSigned16_eq]
  exact ⟨exec_rspOf .tcollector frame s, exec_rspOf .texhaust frame s⟩

/-- Settles O30: both rows publish the pair of signed bytes. -/
theorem boundaryPairsPublishBothBytes : Obligations.BoundaryPairsPublishBothBytes := by
  intro frame s
  rw [← publishPair_eq, ← publishPair_eq]
  exact ⟨exec_rspOf .tdhwSetUBTdhwSetLB frame s, exec_rspOf .maxTSetUBMaxTSetLB frame s⟩

/-- Settles O31: each row of the list publishes the u16 reading under its own kind. -/
theorem counterResponsesPublishUnsigned : Obligations.CounterResponsesPublishUnsigned := by
  intro frame s i k h
  rw [← publishUint16_eq]
  simp only [List.mem_cons, Prod.mk.injEq, List.not_mem_nil, or_false] at h
  rcases h with ⟨rfl, rfl⟩ | ⟨rfl, rfl⟩ | ⟨rfl, rfl⟩ | ⟨rfl, rfl⟩ | ⟨rfl, rfl⟩ | ⟨rfl, rfl⟩ | ⟨rfl, rfl⟩ |
    ⟨rfl, rfl⟩ <;> rfl

end Sys2Proof.Machine
end

section
/-! The sink kinds and the sink view (42_response_dispatcher.md §2, 10_state.md §3): the view of a kind is the last of the
values published under it, and a response row publishes each of its own kinds once. -/

namespace Sys2Proof.Machine

/-! ### The kinds and their codes -/

/-- The sensor kinds in code order (42_response_dispatcher.md R181). -/
def sensorKinds : List SensorKind :=
  [.relModLevel, .chPressure, .dhwFlowRate, .tBoiler, .tDhw, .tOutside, .tRet, .tStorage, .tCollector, .tFlowCh2, .tDhw2,
    .tExhaust, .tdhwSetUb, .tdhwSetLb, .maxTsetUb, .maxTsetLb, .maxTset, .burnerStarts, .chPumpStarts,
    .dhwPumpValveStarts, .dhwBurnerStarts, .burnerOperationHours, .chPumpOperationHours, .dhwPumpValveOperationHours,
    .dhwBurnerOperationHours]

/-- The binary kinds in code order (42_response_dispatcher.md R181). -/
def binaryKinds : List BinaryKind :=
  [.fault, .chActive, .dhwActive, .flameOn, .coolingActive, .ch2Active, .diagnostic, .dhwPresent, .controlType,
    .coolingConfig, .dhwConfig, .masterLowOffPumpControl, .ch2Present, .dhwSetpointTransferEnable,
    .maxChSetpointTransferEnable, .dhwSetpointRw, .maxChSetpointRw]

theorem mem_sensorKinds (k : SensorKind) : k ∈ sensorKinds := by cases k <;> decide

theorem mem_binaryKinds (k : BinaryKind) : k ∈ binaryKinds := by cases k <;> decide

theorem sensorKind_code_injective {k k' : SensorKind} (h : k.codeOwner.1 = k'.codeOwner.1) : k = k' :=
  List.inj_on_of_nodup_map (f := fun k : SensorKind => k.codeOwner.1) (show (sensorKinds.map _).Nodup by decide)
    (mem_sensorKinds k) (mem_sensorKinds k') h

theorem binaryKind_code_injective {k k' : BinaryKind} (h : k.codeOwner.1 = k'.codeOwner.1) : k = k' :=
  List.inj_on_of_nodup_map (f := fun k : BinaryKind => k.codeOwner.1) (show (binaryKinds.map _).Nodup by decide)
    (mem_binaryKinds k) (mem_binaryKinds k') h

theorem ofCode_code (v : Validity) : Validity.ofCode v.code = v := by cases v <;> rfl

theorem code_ofCode (c : BitVec 2) : (Validity.ofCode c).code = c := by
  revert c
  decide

/-- Settles O60: the tabled codes are those of the definitions; no two kinds share one. -/
theorem codesNameTheirThingsOnce : Obligations.CodesNameTheirThingsOnce := by
  refine ⟨rfl, rfl, rfl, rfl, ofCode_code, code_ofCode, ?_⟩
  iterate 42 refine ⟨rfl, ?_⟩
  exact ⟨fun _ _ => sensorKind_code_injective, fun _ _ => binaryKind_code_injective, fun _ _ => rfl, fun _ => rfl,
    fun _ => rfl, fun _ _ => rfl⟩

/-! ### The kinds a response row publishes -/

/-- A kind of either sort. -/
abbrev Kind := SensorKind ⊕ BinaryKind

/-- The kind an event publishes under, if it publishes. -/
def Event.kind? (e : Event) : Option Kind :=
  match e with
  | .pubS k _ => some (.inl k)
  | .pubB k _ => some (.inr k)
  | _ => none

/-- The identifier a kind belongs to (42_response_dispatcher.md R181). -/
def Kind.owner (k : Kind) : MsgName := k.elim (fun k => k.codeOwner.2) fun k => k.codeOwner.2

/-- The code of a kind, of its own sort. -/
def Kind.code (k : Kind) : Nat ⊕ Nat := k.map (fun k => k.codeOwner.1) fun k => k.codeOwner.1

/-- Every kind, in code order. -/
def Kind.all : List Kind := sensorKinds.map .inl ++ binaryKinds.map .inr

theorem Kind.mem_all (k : Kind) : k ∈ Kind.all := by
  cases k with
  | inl k => exact List.mem_append_left _ (List.mem_map_of_mem (mem_sensorKinds k))
  | inr k => exact List.mem_append_right _ (List.mem_map_of_mem (mem_binaryKinds k))

theorem Kind.codes_nodup : (Kind.all.map Kind.code).Nodup := by decide

/-- The kinds of a name, in code order. -/
def Kind.ofName (n : MsgName) : List Kind := Kind.all.filter fun k => k.owner = n

theorem Kind.mem_ofName {k : Kind} {n : MsgName} : k ∈ Kind.ofName n ↔ k.owner = n := by
  simp [Kind.ofName, Kind.mem_all]

theorem Kind.ofName_codes_nodup (n : MsgName) : ((Kind.ofName n).map Kind.code).Nodup :=
  Kind.codes_nodup.sublist (List.filter_sublist.map _)

/-- A name's rule publishes the kinds of the name, each once, in code order (42_response_dispatcher.md R182). -/
theorem kinds_respondNamed (p : Config.Params) (n : MsgName) (frame : Frame) :
    (respondNamed p n frame).filterMap Event.kind? = Kind.ofName n := by
  cases n <;> rfl

theorem pubS_mem_iff {es : List Event} {k : SensorKind} :
    (∃ q, Event.pubS k q ∈ es) ↔ .inl k ∈ es.filterMap Event.kind? := by
  rw [List.mem_filterMap]
  refine ⟨fun ⟨q, hq⟩ => ⟨_, hq, rfl⟩, fun ⟨e, he, hk⟩ => ?_⟩
  cases e with
  | pubS k' q => cases hk; exact ⟨q, he⟩
  | _ => cases hk

theorem pubB_mem_iff {es : List Event} {k : BinaryKind} :
    (∃ b, Event.pubB k b ∈ es) ↔ .inr k ∈ es.filterMap Event.kind? := by
  rw [List.mem_filterMap]
  refine ⟨fun ⟨b, hb⟩ => ⟨_, hb, rfl⟩, fun ⟨e, he, hk⟩ => ?_⟩
  cases e with
  | pubB k' b => cases hk; exact ⟨b, he⟩
  | _ => cases hk

theorem pubS_mem_respondNamed {p : Config.Params} {n : MsgName} {frame : Frame} {k : SensorKind} :
    (∃ q, Event.pubS k q ∈ respondNamed p n frame) ↔ k.codeOwner.2 = n := by
  rw [pubS_mem_iff, kinds_respondNamed, Kind.mem_ofName]
  rfl

theorem pubB_mem_respondNamed {p : Config.Params} {n : MsgName} {frame : Frame} {k : BinaryKind} :
    (∃ b, Event.pubB k b ∈ respondNamed p n frame) ↔ k.codeOwner.2 = n := by
  rw [pubB_mem_iff, kinds_respondNamed, Kind.mem_ofName]
  rfl

/-! ### The sink view -/

/-- The value an event publishes under a sensor kind, if it does. -/
def sensorValue (k : SensorKind) (e : Event) : Option Rat :=
  match e with
  | .pubS k' q => if k' = k then some q else none
  | _ => none

/-- The value an event publishes under a binary kind, if it does. -/
def binaryValue (k : BinaryKind) (e : Event) : Option Bool :=
  match e with
  | .pubB k' b => if k' = k then some b else none
  | _ => none

/-- The last value a reader of events finds in a history. -/
def lastValue {α : Type} (f : Event → Option α) (history : List Event) : Option α := (history.filterMap f).getLast?

theorem lastValue_concat {α : Type} (f : Event → Option α) (history : List Event) (e : Event) :
    lastValue f (history ++ [e]) = (f e).or (lastValue f history) := by
  cases h : f e <;> simp [lastValue, h]

/-- The sink view of a sensor kind is its last value. -/
theorem sinkSensor_eq (history : List Event) (k : SensorKind) :
    sinkSensor history k = lastValue (sensorValue k) history := by
  induction history using List.reverseRecOn with
  | nil => rfl
  | append_singleton history e ih =>
    rw [lastValue_concat, ← ih, sinkSensor, List.foldl_concat]
    cases e with
    | pubS k' q => by_cases h : k' = k <;> simp [sensorValue, sinkSensor, h]
    | _ => rfl

/-- The sink view of a binary kind is its last value. -/
theorem sinkBinary_eq (history : List Event) (k : BinaryKind) :
    sinkBinary history k = lastValue (binaryValue k) history := by
  induction history using List.reverseRecOn with
  | nil => rfl
  | append_singleton history e ih =>
    rw [lastValue_concat, ← ih, sinkBinary, List.foldl_concat]
    cases e with
    | pubB k' b => by_cases h : k' = k <;> simp [binaryValue, sinkBinary, h]
    | _ => rfl

/-- A reader of events that finds a value exactly in the publishes of one kind. -/
def Reads {α : Type} (f : Event → Option α) (k : Kind) : Prop := ∀ e, (f e).isSome ↔ e.kind? = some k

theorem sensorValue_reads (k : SensorKind) : Reads (sensorValue k) (.inl k) := by
  intro e
  cases e <;> simp [sensorValue, Event.kind?]

theorem binaryValue_reads (k : BinaryKind) : Reads (binaryValue k) (.inr k) := by
  intro e
  cases e <;> simp [binaryValue, Event.kind?]

theorem sensorValue_eq_some {k : SensorKind} {e : Event} {q : Rat} : sensorValue k e = some q ↔ e = .pubS k q := by
  cases e <;> simp [sensorValue]

theorem binaryValue_eq_some {k : BinaryKind} {e : Event} {b : Bool} : binaryValue k e = some b ↔ e = .pubB k b := by
  cases e <;> simp [binaryValue]

section reader
variable {α : Type} {f : Event → Option α} {k : Kind}

theorem values_eq_nil (hf : Reads f k) {es : List Event} (h : k ∉ es.filterMap Event.kind?) :
    es.filterMap f = [] := by
  refine List.filterMap_eq_nil_iff.mpr fun e he => ?_
  by_contra hv
  exact h (List.mem_filterMap.mpr ⟨e, he, (hf e).mp (Option.isSome_iff_ne_none.mpr hv)⟩)

/-- Where each kind is published once, no two values are found. -/
theorem values_pairwise_false (hf : Reads f k) {es : List Event} (h : (es.filterMap Event.kind?).Nodup) :
    (es.filterMap f).Pairwise fun _ _ => False := by
  rw [List.Nodup, List.pairwise_filterMap] at h
  rw [List.pairwise_filterMap]
  exact h.imp fun hne a ha b hb => hne k ((hf _).mp (by simp [ha])) k ((hf _).mp (by simp [hb])) rfl

theorem lastValue_append_of_nil (history : List Event) {es : List Event} (h : es.filterMap f = []) :
    lastValue f (history ++ es) = lastValue f history := by
  rw [lastValue, List.filterMap_append, h, List.append_nil, lastValue]

theorem lastValue_eq_none_iff (history : List Event) : lastValue f history = none ↔ ∀ e ∈ history, f e = none := by
  rw [lastValue, List.getLast?_eq_none_iff, List.filterMap_eq_nil_iff]

/-- The last event in which a value is found decides. -/
theorem lastValue_of_last {before after : List Event} {e : Event} {a : α} (he : f e = some a)
    (hafter : ∀ e ∈ after, f e = none) : lastValue f (before ++ e :: after) = some a := by
  rw [lastValue, List.filterMap_append, List.filterMap_cons, he, List.filterMap_eq_nil_iff.mpr hafter]
  simp

/-- Reordering events in which each kind is published once changes no last value. -/
theorem lastValue_append_perm (hf : Reads f k) (history : List Event) {es es' : List Event} (hperm : es'.Perm es)
    (h : (es.filterMap Event.kind?).Nodup) : lastValue f (history ++ es') = lastValue f (history ++ es) := by
  have hvalues : es'.filterMap f = es.filterMap f :=
    (hperm.filterMap f).eq_of_pairwise (fun _ _ _ _ hfalse => hfalse.elim)
      (values_pairwise_false hf ((hperm.filterMap _).nodup_iff.mpr h)) (values_pairwise_false hf h)
  rw [lastValue, List.filterMap_append, hvalues, ← List.filterMap_append, lastValue]

/-- The value found in events in which each kind is published once is the last value after them. -/
theorem lastValue_append_of_mem (hf : Reads f k) (history : List Event) {es : List Event} {e : Event} {a : α}
    (h : (es.filterMap Event.kind?).Nodup) (he : e ∈ es) (ha : f e = some a) :
    lastValue f (history ++ es) = some a := by
  have hmem : a ∈ es.filterMap f := List.mem_filterMap.mpr ⟨e, he, ha⟩
  have hone : es.filterMap f = [a] := by
    have hpair := values_pairwise_false hf h
    cases hl : es.filterMap f with
    | nil => simp [hl] at hmem
    | cons b l =>
      rw [hl, List.pairwise_cons] at hpair
      obtain rfl := List.eq_nil_iff_forall_not_mem.mpr hpair.1
      rw [hl, List.mem_singleton] at hmem
      rw [hmem]
  rw [lastValue, List.filterMap_append, hone, List.getLast?_concat]

end reader

/-! ### The sink after a response row -/

theorem kinds_respondNamed_nodup (p : Config.Params) (n : MsgName) (frame : Frame) :
    ((respondNamed p n frame).filterMap Event.kind?).Nodup := by
  rw [kinds_respondNamed]
  exact (Kind.ofName_codes_nodup n).of_map _

/-- The codes an event list publishes, of either sort, are those of its kinds. -/
theorem codes_eq_kinds (es : List Event) :
    (es.filterMap fun e => match e with
      | .pubS k _ => some (Sum.inl (β := Nat) k.codeOwner.1)
      | .pubB k _ => some (Sum.inr k.codeOwner.1)
      | _ => none) = (es.filterMap Event.kind?).map Kind.code := by
  rw [List.map_filterMap]
  congr 1
  funext e
  cases e <;> rfl

/-- Settles O37: the kinds published are the name's, each once; so no order of the events changes a last value. -/
theorem responsesPublishTheirOwnKindsOnce : Obligations.ResponsesPublishTheirOwnKindsOnce := by
  intro n frame s
  have honce := kinds_respondNamed_nodup s.params n frame
  refine ⟨_, exec_rspOf n frame s, fun k => pubS_mem_respondNamed, fun k => pubB_mem_respondNamed, ?_,
    fun history es' hperm => ⟨fun k => ?_, fun k => ?_⟩⟩
  · have hcodes := Kind.ofName_codes_nodup n
    rw [← kinds_respondNamed s.params n frame, ← codes_eq_kinds] at hcodes
    exact hcodes
  · rw [sinkSensor_eq, sinkSensor_eq, lastValue_append_perm (sensorValue_reads k) history hperm honce]
  · rw [sinkBinary_eq, sinkBinary_eq, lastValue_append_perm (binaryValue_reads k) history hperm honce]

end Sys2Proof.Machine
end

section
/-! A tick in terms of the position of the next read (43_scheduler.md R242 to R250): which entry a ready tick issues, what it
leaves, and what a RUNNING tick can do at all. -/

namespace Sys2Proof.Machine

/-- Steps 1 and 2 of the send phase move the scheduler to the position of the next read. -/
theorem rewind_eq (s : State) :
    rewind s = { s with initializing := s.nextPosition.1, cursor := s.nextPosition.2 } := by
  rcases s with ⟨p, ci, cr, rep, ini, cur, lc, ev, ports, pend, ret⟩
  cases ini
  · by_cases h : cur = rep.length <;> simp [rewind, State.nextPosition, State.wrapCursor, h]
  · by_cases h : cur = ci.length <;> simp [rewind, State.nextPosition, State.enterRepeating, h]

theorem rewind_entry (s : State) : (rewind s).activeList[(rewind s).cursor]? = s.nextEntry := by
  rw [rewind_eq]
  rfl

/-- What a ready tick of a RUNNING block leaves when it issues an identifier. -/
def State.afterReady (s : State) (id : MsgId) : State :=
  { s with
    initializing := s.nextPosition.1, cursor := s.nextPosition.2 + 1, ports := { s.ports with rsp := none },
    events := s.events ++
      tickEvents s.params.tickOrder [issueEvent (build s.params s.ports id)] (receiveEvents s) }

section afterReady
variable (s : State) (id : MsgId)
@[simp] theorem afterReady_params : (s.afterReady id).params = s.params := rfl
@[simp] theorem afterReady_cfgInit : (s.afterReady id).cfgInit = s.cfgInit := rfl
@[simp] theorem afterReady_cfgRep : (s.afterReady id).cfgRep = s.cfgRep := rfl
@[simp] theorem afterReady_rep : (s.afterReady id).rep = s.rep := rfl
@[simp] theorem afterReady_initializing : (s.afterReady id).initializing = s.nextPosition.1 := rfl
@[simp] theorem afterReady_cursor : (s.afterReady id).cursor = s.nextPosition.2 + 1 := rfl
@[simp] theorem afterReady_lc : (s.afterReady id).lc = s.lc := rfl
@[simp] theorem afterReady_events : (s.afterReady id).events = s.events ++
    tickEvents s.params.tickOrder [issueEvent (build s.params s.ports id)] (receiveEvents s) := rfl
@[simp] theorem afterReady_rsp : (s.afterReady id).ports.rsp = none := rfl
end afterReady

theorem tick_of_entry {s : State} {id : MsgId} (hr : s.ports.ready = true) (h : s.nextEntry = some id) :
    tick s = .next (s.afterReady id) := by
  rw [tick_ready hr, rewind_entry, h, rewind_eq]
  rfl

theorem tick_of_no_entry {s : State} (hr : s.ports.ready = true) (h : s.nextEntry = none) :
    tick s = .fault .cursorOutOfRange := by
  rw [tick_ready hr, rewind_entry, h]

/-- Everything a RUNNING tick that completes can do: it only receives, or it also issues the entry at the cursor. -/
theorem tick_next {s t : State} (h : tick s = .next t) :
    (s.ports.ready = false ∧ t = receivePhase s) ∨
    (s.ports.ready = true ∧ ∃ id, s.nextEntry = some id ∧ t = s.afterReady id) := by
  cases hr : s.ports.ready with
  | false =>
    rw [tick_idle hr] at h
    exact .inl ⟨rfl, (Host.Outcome.next.inj h).symm⟩
  | true =>
    cases he : s.nextEntry with
    | none => rw [tick_of_no_entry hr he] at h; cases h
    | some id =>
      rw [tick_of_entry hr he] at h
      exact .inr ⟨rfl, id, rfl, (Host.Outcome.next.inj h).symm⟩

section receivePhase
variable (s : State)
@[simp] theorem receivePhase_params : (receivePhase s).params = s.params := by rw [receivePhase_eq]; rfl
@[simp] theorem receivePhase_cfgInit : (receivePhase s).cfgInit = s.cfgInit := by rw [receivePhase_eq]; rfl
@[simp] theorem receivePhase_cfgRep : (receivePhase s).cfgRep = s.cfgRep := by rw [receivePhase_eq]; rfl
@[simp] theorem receivePhase_rep : (receivePhase s).rep = s.rep := by rw [receivePhase_eq]; rfl
@[simp] theorem receivePhase_initializing : (receivePhase s).initializing = s.initializing := by
  rw [receivePhase_eq]; rfl
@[simp] theorem receivePhase_cursor : (receivePhase s).cursor = s.cursor := by rw [receivePhase_eq]; rfl
@[simp] theorem receivePhase_lc : (receivePhase s).lc = s.lc := by rw [receivePhase_eq]; rfl
@[simp] theorem receivePhase_events : (receivePhase s).events = s.events ++ receiveEvents s := by
  rw [receivePhase_eq]; rfl
@[simp] theorem receivePhase_rsp : (receivePhase s).ports.rsp = none := by rw [receivePhase_eq]; rfl
@[simp] theorem receivePhase_ready : (receivePhase s).ports.ready = s.ports.ready := by rw [receivePhase_eq]; rfl
end receivePhase

/-- A completed tick keeps the parameters, the lists and the lifecycle state, and leaves no delivery at the port. -/
theorem tick_frame {s t : State} (h : tick s = .next t) :
    t.params = s.params ∧ t.cfgInit = s.cfgInit ∧ t.cfgRep = s.cfgRep ∧ t.rep = s.rep ∧ t.lc = s.lc ∧
      t.ports.rsp = none := by
  rcases tick_next h with ⟨-, rfl⟩ | ⟨-, id, -, rfl⟩ <;> simp

/-- What a completed tick appends to the history. -/
theorem tick_appends {s t : State} (h : tick s = .next t) :
    ∃ issued, (issued = [] ∨ ∃ r, issued = [issueEvent r]) ∧
      t.events = s.events ++ tickEvents s.params.tickOrder issued (receiveEvents s) := by
  rcases tick_next h with ⟨-, rfl⟩ | ⟨-, id, -, rfl⟩
  · refine ⟨[], .inl rfl, ?_⟩
    rw [receivePhase_events]
    cases s.params.tickOrder <;> simp [tickEvents]
  · exact ⟨_, .inr ⟨_, rfl⟩, rfl⟩

/-! ### The invariant and a tick -/

/-- Under the invariant a RUNNING block has an entry to read. -/
theorem nextEntry_of_inv {s : State} (h : s.Inv) (hl : s.lc = .running) : ∃ id, s.nextEntry = some id := by
  rw [← rewind_entry]
  exact entry_of_inv h hl

/-- Under the invariant a RUNNING tick completes. -/
theorem tick_completes {s : State} (h : s.Inv) (hl : s.lc = .running) : ∃ t, tick s = .next t := by
  cases hr : s.ports.ready with
  | false => exact ⟨_, tick_idle hr⟩
  | true =>
    obtain ⟨id, hid⟩ := nextEntry_of_inv h hl
    exact ⟨_, tick_of_entry hr hid⟩

/-- The part of a state the invariant speaks of. -/
def State.schedule (s : State) : Config.Params × List MsgId × List MsgId × List MsgId × Bool × Nat × Lifecycle :=
  (s.params, s.cfgInit, s.cfgRep, s.rep, s.initializing, s.cursor, s.lc)

theorem inv_congr {s t : State} (h : t.schedule = s.schedule) (hs : s.Inv) : t.Inv := by
  rcases s with ⟨p, ci, cr, rep, ini, cur, lc, ev, ports, pend, ret⟩
  rcases t with ⟨p', ci', cr', rep', ini', cur', lc', ev', ports', pend', ret'⟩
  cases h
  exact ⟨hs.listMax_pos, hs.cfgInit_fits, hs.cfgRep_fits, hs.rep_fits, hs.cursor_le, hs.rep_effective⟩

theorem inv_receivePhase {s : State} (h : s.Inv) : (receivePhase s).Inv :=
  inv_congr (by simp [State.schedule]) h

/-- The advance past an entry stays within the list the entry was read from. -/
theorem inv_afterReady {s : State} {id : MsgId} (h : s.Inv) (hid : s.nextEntry = some id) : (s.afterReady id).Inv where
  listMax_pos := h.listMax_pos
  cfgInit_fits := h.cfgInit_fits
  cfgRep_fits := h.cfgRep_fits
  rep_fits := h.rep_fits
  cursor_le := (List.getElem?_eq_some_iff.mp hid).1
  rep_effective := h.rep_effective

theorem inv_tick {s t : State} (h : s.Inv) (ht : tick s = .next t) : t.Inv := by
  rcases tick_next ht with ⟨-, rfl⟩ | ⟨-, id, hid, rfl⟩
  · exact inv_receivePhase h
  · exact inv_afterReady h hid

/-- The effective repeating list fits: it is the configured one or a single entry. -/
theorem effectiveRep_fits {s : State} (h : s.Inv) : s.effectiveRep.length ≤ s.params.listMax := by
  unfold State.effectiveRep
  split
  · exact h.listMax_pos
  · exact h.cfgRep_fits

theorem inv_started {s : State} (h : s.Inv) : s.started.Inv where
  listMax_pos := h.listMax_pos
  cfgInit_fits := h.cfgInit_fits
  cfgRep_fits := h.cfgRep_fits
  rep_fits := effectiveRep_fits h
  cursor_le := Nat.zero_le _
  rep_effective := fun _ => rfl

theorem inv_halted {s : State} (h : s.Inv) : s.halted.Inv where
  listMax_pos := h.listMax_pos
  cfgInit_fits := h.cfgInit_fits
  cfgRep_fits := h.cfgRep_fits
  rep_fits := h.rep_fits
  cursor_le := h.cursor_le
  rep_effective := fun hl => by cases hl

end Sys2Proof.Machine
end

section
/-! One step of the machine (20_memory.md R56): what it can do, and what every step keeps. -/

namespace Sys2Proof.Machine

/-- The state at which a presented operation runs: the operation has left the list, its port values stand. -/
def State.taking (s : State) (c : Presented) (rest : List Presented) : State :=
  { s with pending := rest, ports := c.ports }

section taking
variable (s : State) (c : Presented) (rest : List Presented)
@[simp] theorem taking_params : (s.taking c rest).params = s.params := rfl
@[simp] theorem taking_lc : (s.taking c rest).lc = s.lc := rfl
@[simp] theorem taking_ports : (s.taking c rest).ports = c.ports := rfl
end taking

/-- An instruction that is decoded elsewhere than at the response port is no response row: it returns a value and
changes nothing else, or it is a lifecycle operation. -/
theorem exec_of_not_response {p : Config.Params} {c : Command} {i : Instr} {s t : State} (hd : decode p c = .ok i)
    (hport : c.port ≠ .response) (h : exec i s = .next t) :
    (∃ r, t = s.returning r) ∨ i = .opStart ∨ i = .opTick ∨ i = .opStop := by
  have value : ∀ {o : Out} {r : Returned}, o = .next t → o = .next (s.returning r) → ∃ r, t = s.returning r :=
    fun h1 h2 => ⟨_, Host.Outcome.next.inj (h1.symm.trans h2)⟩
  rcases c with ⟨port, word, index⟩
  cases port with
  | request =>
    rcases decodeRequest_ok hd with ⟨n, -, rfl⟩ | ⟨-, rfl⟩
    · exact .inl (value h (exec_reqOf n s))
    · exact .inl (value h (exec_reqUnknown _ s))
  | response => exact absurd rfl hport
  | codec f =>
    cases f with
    | decodeFlag =>
      simp only [decode] at hd
      split at hd
      · next hi =>
        cases hd
        rw [exec_codecDecodeFlag, if_pos hi] at h
        exact .inl (value h rfl)
      · cases hd
    | _ => cases hd; exact .inl (value h rfl)
  | lifecycle o =>
    cases o <;> cases hd <;> simp

theorem exec_opStart_refused {s : State} (h : s.lc ≠ .constructed) : exec .opStart s = .refused .startRepeated := by
  cases hl : s.lc with
  | constructed => exact absurd hl h
  | running | stopped => simp only [exec, execOpStart, hl]

theorem exec_opStop_halts {s : State} (h : s.lc ≠ .stopped) : exec .opStop s = .next s.halted := by
  cases hl : s.lc with
  | stopped => exact absurd hl h
  | constructed | running => simp only [exec, execOpStop, hl]

theorem exec_opStop_stopped {s : State} (h : s.lc = .stopped) : exec .opStop s = .next s := by
  simp only [exec, execOpStop, h]

theorem opStart_next {s t : State} (h : exec .opStart s = .next t) : s.lc = .constructed ∧ t = s.started := by
  by_cases hl : s.lc = .constructed
  · rw [exec_opStart_constructed hl] at h
    exact ⟨hl, (Host.Outcome.next.inj h).symm⟩
  · rw [exec_opStart_refused hl] at h
    cases h

theorem opTick_next {s t : State} (h : exec .opTick s = .next t) :
    (s.lc = .running ∧ tick s = .next t) ∨ (s.lc = .stopped ∧ t = s) := by
  cases hl : s.lc with
  | constructed => rw [exec_opTick_constructed hl] at h; cases h
  | running => exact .inl ⟨rfl, by rwa [exec_opTick_running hl] at h⟩
  | stopped =>
    rw [exec_opTick_stopped hl] at h
    exact .inr ⟨rfl, (Host.Outcome.next.inj h).symm⟩

theorem opStop_next {s t : State} (h : exec .opStop s = .next t) :
    (s.lc ≠ .stopped ∧ t = s.halted) ∨ (s.lc = .stopped ∧ t = s) := by
  by_cases hl : s.lc = .stopped
  · rw [exec_opStop_stopped hl] at h
    exact .inr ⟨hl, (Host.Outcome.next.inj h).symm⟩
  · rw [exec_opStop_halts hl] at h
    exact .inl ⟨hl, (Host.Outcome.next.inj h).symm⟩

/-! ### A step by what is presented -/

section presented
variable {s : State} {c : Presented} {rest : List Presented}

theorem step_idle (h : s.pending = []) : step s = .next s := by
  simp only [step, State.take, h]

theorem step_undecodable {why : Reject} (hp : s.pending = c :: rest) (hd : decode s.params c.command = .error why) :
    step s = .refused (.undecodable why) := by
  simp only [step, State.take, hp, hd]

theorem step_command {i : Instr} (hp : s.pending = c :: rest) (hport : c.command.port ≠ .response)
    (hd : decode s.params c.command = .ok i) : step s = exec i (s.taking c rest) := by
  simp only [step, State.take, hp, hd, if_neg hport, State.taking]

theorem step_response {i : Instr} (hp : s.pending = c :: rest) (hport : c.command.port = .response)
    (hd : decode s.params c.command = .ok i) : step s = withinReceivePhase (exec i) (s.taking c rest) := by
  simp only [step, State.take, hp, hd, if_pos hport, State.taking]

theorem decode_of_response (p : Config.Params) {c : Command} (hport : c.port = .response) :
    decode p c = .ok (decodeResponse p c.word) := by
  simp only [decode, hport]

/-- A frame at the response port is a TICK that is delivered it. -/
theorem step_response_eq_tick (hp : s.pending = c :: rest) (hport : c.command.port = .response) :
    step s = exec .opTick (s.taking c rest) := by
  rw [step_response hp hport (decode_of_response _ hport)]
  have hports := ports_of_response hport
  exact withinReceivePhase_eq_tick (s := s.taking c rest) (by rw [taking_ports, hports]) (by rw [taking_ports, hports])

end presented

/-- Everything a step that goes on can do, in terms of the state it takes the operation at. -/
theorem step_effect {s t : State} (h : step s = .next t) :
    t = s ∨ ∃ c rest, s.pending = c :: rest ∧
      ((∃ r, t = (s.taking c rest).returning r) ∨
        (s.lc = .constructed ∧ t = (s.taking c rest).started) ∨
        (s.lc ≠ .stopped ∧ t = (s.taking c rest).halted) ∨
        (s.lc = .stopped ∧ t = s.taking c rest) ∨
        (s.lc = .running ∧ tick (s.taking c rest) = .next t ∧
          (c.command.port = .response ∨ decode s.params c.command = .ok .opTick))) := by
  cases hp : s.pending with
  | nil => exact .inl (Host.Outcome.next.inj ((step_idle hp).symm.trans h)).symm
  | cons c rest =>
    refine .inr ⟨c, rest, rfl, ?_⟩
    by_cases hport : c.command.port = .response
    · rw [step_response_eq_tick hp hport] at h
      rcases opTick_next h with ⟨hl, ht⟩ | hstopped
      · exact .inr (.inr (.inr (.inr ⟨hl, ht, .inl hport⟩)))
      · exact .inr (.inr (.inr (.inl hstopped)))
    · cases hd : decode s.params c.command with
      | error why => rw [step_undecodable hp hd] at h; cases h
      | ok i =>
        rw [step_command hp hport hd] at h
        rcases exec_of_not_response hd hport h with hr | rfl | rfl | rfl
        · exact .inl hr
        · exact .inr (.inl (opStart_next h))
        · rcases opTick_next h with ⟨hl, ht⟩ | hstopped
          · exact .inr (.inr (.inr (.inr ⟨hl, ht, .inr rfl⟩)))
          · exact .inr (.inr (.inr (.inl hstopped)))
        · rcases opStop_next h with hhalted | hstopped
          · exact .inr (.inr (.inl hhalted))
          · exact .inr (.inr (.inr (.inl hstopped)))

/-! ### What every step keeps -/

theorem inv_taking {s : State} (h : s.Inv) (c : Presented) (rest : List Presented) : (s.taking c rest).Inv :=
  inv_congr (s := s) rfl h

/-- Settles O52, by what a step can do: START, STOP and a tick each keep the invariant, and nothing else moves the
schedule. -/
theorem everyStepKeepsTheInvariant : Obligations.EveryStepKeepsTheInvariant := by
  intro s t h hstep
  rcases step_effect hstep with rfl | ⟨c, rest, -, ⟨r, rfl⟩ | ⟨-, rfl⟩ | ⟨-, rfl⟩ | ⟨-, rfl⟩ | ⟨-, ht, -⟩⟩
  · exact h
  · exact inv_congr (s := s) rfl h
  · exact inv_started (inv_taking h c rest)
  · exact inv_halted (inv_taking h c rest)
  · exact inv_taking h c rest
  · exact inv_tick (inv_taking h c rest) ht

/-- Under the invariant no instruction faults: only a tick reads the schedule, and it finds an entry. -/
theorem exec_not_fault {s : State} (h : s.Inv) (i : Instr) (r : Fault) : exec i s ≠ .fault r := by
  intro hf
  cases i with
  | opTick =>
    cases hl : s.lc with
    | constructed => rw [exec_opTick_constructed hl] at hf; cases hf
    | running =>
      obtain ⟨t, ht⟩ := tick_completes h hl
      rw [exec_opTick_running hl, ht] at hf
      cases hf
    | stopped => rw [exec_opTick_stopped hl] at hf; cases hf
  | opStart => cases hl : s.lc <;> simp [exec, execOpStart, hl] at hf
  | opStop => cases hl : s.lc <;> simp [exec, execOpStop, hl] at hf
  | codecDecodeFlag frame i => by_cases hi : i < 32 <;> simp [exec_codecDecodeFlag, hi] at hf
  | _ => cases hf

/-- Settles O53: a step idles, refuses, or runs an instruction at a state of the invariant. -/
theorem noStepFaultsUnderTheInvariant : Obligations.NoStepFaultsUnderTheInvariant := by
  intro s r h hf
  cases hp : s.pending with
  | nil => rw [step_idle hp] at hf; cases hf
  | cons c rest =>
    by_cases hport : c.command.port = .response
    · rw [step_response_eq_tick hp hport] at hf
      exact exec_not_fault (inv_taking h c rest) _ r hf
    · cases hd : decode s.params c.command with
      | error why => rw [step_undecodable hp hd] at hf; cases hf
      | ok i =>
        rw [step_command hp hport hd] at hf
        exact exec_not_fault (inv_taking h c rest) i r hf

/-- Settles O55, by what a step can do: only START writes the repeating list. -/
theorem configurationNeverChanges : Obligations.ConfigurationNeverChanges := by
  refine ⟨fun p init rep => ⟨rfl, rfl⟩, fun s t hstep => ?_⟩
  rcases step_effect hstep with rfl | ⟨c, rest, -, ⟨r, rfl⟩ | ⟨hl, rfl⟩ | ⟨-, rfl⟩ | ⟨-, rfl⟩ | ⟨-, ht, -⟩⟩
  · exact ⟨rfl, rfl, rfl, fun hne => absurd rfl hne⟩
  · exact ⟨rfl, rfl, rfl, fun hne => absurd rfl hne⟩
  · exact ⟨rfl, rfl, rfl, fun _ => ⟨hl, rfl, rfl⟩⟩
  · exact ⟨rfl, rfl, rfl, fun hne => absurd rfl hne⟩
  · exact ⟨rfl, rfl, rfl, fun hne => absurd rfl hne⟩
  · obtain ⟨hparams, hinit, hcfgRep, hrep, -, -⟩ := tick_frame ht
    exact ⟨hparams, hinit, hcfgRep, fun hne => absurd hrep hne⟩

/-- A step that changes the history is a tick of a RUNNING block. -/
theorem step_events_ne {s t : State} (hstep : step s = .next t) (hne : t.events ≠ s.events) :
    s.lc = .running ∧ ∃ c rest, s.pending = c :: rest ∧ tick (s.taking c rest) = .next t ∧
      (c.command.port = .response ∨ decode s.params c.command = .ok .opTick) := by
  rcases step_effect hstep with rfl | ⟨c, rest, hp, ⟨r, rfl⟩ | ⟨-, rfl⟩ | ⟨-, rfl⟩ | ⟨-, rfl⟩ | ⟨hl, ht, hc⟩⟩
  · exact absurd rfl hne
  · exact absurd rfl hne
  · exact absurd rfl hne
  · exact absurd rfl hne
  · exact absurd rfl hne
  · exact ⟨hl, c, rest, hp, ht, hc⟩

/-- Settles O56: only a tick changes the history, and it appends. -/
theorem historyIsAppendOnly : Obligations.HistoryIsAppendOnly := by
  intro s t hstep
  by_cases hsame : t.events = s.events
  · rw [hsame]
  · obtain ⟨-, c, rest, -, ht, -⟩ := step_events_ne hstep hsame
    obtain ⟨issued, -, hevents⟩ := tick_appends ht
    exact ⟨_, hevents.symm⟩

theorem nextPosition_of_repeating {s : State} (h : s.initializing = false) : s.nextPosition.1 = false := by
  simp [State.nextPosition, h]

theorem tick_stays_repeating {s t : State} (ht : tick s = .next t) (h : s.initializing = false) :
    t.initializing = false := by
  rcases tick_next ht with ⟨-, rfl⟩ | ⟨-, id, -, rfl⟩
  · rwa [receivePhase_initializing]
  · exact nextPosition_of_repeating h

/-- Settles O57, by what a step can do: only START, from CONSTRUCTED, enters INITIALIZING, and no operation writes
CONSTRUCTED. -/
theorem phaseAndLifecycleMoveForward : Obligations.PhaseAndLifecycleMoveForward := by
  intro s t hstep
  rcases step_effect hstep with rfl | ⟨c, rest, -, ⟨r, rfl⟩ | ⟨hl, rfl⟩ | ⟨-, rfl⟩ | ⟨-, rfl⟩ | ⟨hl, ht, -⟩⟩
  · exact ⟨fun _ hi => hi, Classical.em _, fun hl => hl⟩
  · exact ⟨fun _ hi => hi, Classical.em _, fun hl => hl⟩
  · exact ⟨fun hne => absurd hl hne, .inl hl, fun hstopped => by rw [hl] at hstopped; cases hstopped⟩
  · exact ⟨fun _ hi => hi, .inr (by simp), fun _ => rfl⟩
  · exact ⟨fun _ hi => hi, Classical.em _, fun hl => hl⟩
  · obtain ⟨-, -, -, -, hlc, -⟩ := tick_frame ht
    rw [taking_lc, hl] at hlc
    exact ⟨fun _ hi => tick_stays_repeating ht hi, .inr (by simp [hlc]), fun hstopped => by
      rw [hl] at hstopped; cases hstopped⟩

/-- The receive phase emits one `PROCESS`. -/
theorem receiveEvents_process (s : State) :
    ((receiveEvents s).filter fun e => decide (e = .process)) = [.process] := by
  rw [receiveEvents, List.filter_cons_of_pos (by simp), List.filter_eq_nil_iff.mpr]
  intro e he hprocess
  obtain rfl := of_decide_eq_true hprocess
  cases hr : s.ports.rsp with
  | none => simp [hr] at he
  | some d =>
    rw [hr] at he
    cases dispatch_isDispatch _ _ _ he

/-- A tick emits one `PROCESS`, in either order of its phases. -/
theorem tickEvents_process (o : Config.TickOrder) {issued : List Event}
    (h : issued = [] ∨ ∃ r, issued = [issueEvent r]) (s : State) :
    ((tickEvents o issued (receiveEvents s)).filter fun e => decide (e = .process)) = [.process] := by
  have hissued : (issued.filter fun e => decide (e = .process)) = [] := by
    rcases h with rfl | ⟨r, rfl⟩
    · rfl
    · cases r <;> rfl
  cases o <;> simp only [tickEvents, List.filter_append, hissued, receiveEvents_process] <;> rfl

/-- A tick that reads not ready sends no frame. -/
theorem tick_idle_not_tx {s t : State} (ht : tick s = .next t) (hr : s.ports.ready = false) :
    t.events.filter Event.isTx = s.events.filter Event.isTx := by
  rw [tick_idle hr] at ht
  cases ht
  rw [receivePhase_events, List.filter_append, receiveEvents_not_tx, List.append_nil]

/-- Settles O58: only a RUNNING tick changes the history; it sends only when it reads ready, which a frame at the response
port never does. -/
theorem onlyRunningTicksTransmitOrDispatch : Obligations.OnlyRunningTicksTransmitOrDispatch := by
  refine fun s t hstep => ⟨fun hne => ?_, fun hne => ?_⟩
  · obtain ⟨hl, c, rest, hp, ht, hc⟩ := step_events_ne hstep fun h => hne (by rw [h])
    have hready : c.ports.ready = true := by
      by_contra hr
      exact hne (tick_idle_not_tx (s := s.taking c rest) ht (by simpa using hr))
    have hport : c.command.port ≠ .response := fun hport => by simp [ports_of_response hport] at hready
    rw [ports_of_not_response hport] at hready
    exact ⟨hl, c, rest, hp, hc.resolve_left hport, hready⟩
  · obtain ⟨hl, c, rest, hp, ht, hc⟩ := step_events_ne hstep fun h => hne (by rw [h])
    obtain ⟨-, -, -, -, -, hrsp⟩ := tick_frame ht
    obtain ⟨issued, hissued, hevents⟩ := tick_appends ht
    exact ⟨hl, ⟨c, rest, hp, hc⟩, hrsp, _, hevents, tickEvents_process _ hissued _⟩

/-! ### The presented instruction -/

@[simp] theorem operating_events (s : State) : s.operating.events = s.events := by
  unfold State.operating; split <;> rfl

theorem withinReceivePhase_running {s : State} (h : s.lc = .running) (run : State → Out) :
    withinReceivePhase run s = run (s.emit [.process]).deliveryTaken := by
  simp only [withinReceivePhase, h]

/-- In RUNNING a frame at the response port is its row, run right after `PROCESS` (60_exceptions.md R289). -/
theorem step_response_running {s : State} {c : Presented} {rest : List Presented} {i : Instr}
    (hl : s.lc = .running) (hp : s.pending = c :: rest) (hport : c.command.port = .response)
    (hd : decode s.params c.command = .ok i) :
    step s = exec i { s with
      pending := rest, events := s.events ++ [.process], ports := { c.inputs with ready := false, rsp := none } } := by
  rw [step_response hp hport hd, withinReceivePhase_running (s := s.taking c rest) hl, State.taking, ports_of_response hport]
  rfl

/-- A command presented at the port values that stand is run at the block as it stands. -/
theorem step_presentNext {s : State} {c : Command} {i : Instr} (hport : c.port ≠ .response)
    (hd : decode s.params c = .ok i) : step (s.presentNext c) = exec i s := by
  rw [step_command (s := s.presentNext c) rfl hport hd, State.taking, ports_of_not_response hport]
  rfl

theorem step_presentNext_response {s : State} {c : Command} {i : Instr} (hl : s.lc = .running)
    (hport : c.port = .response) (hd : decode s.params c = .ok i) :
    step (s.presentNext c) = exec i { s with
      events := s.events ++ [.process], ports := { s.ports with ready := false, rsp := none } } :=
  step_response_running (s := s.presentNext c) hl rfl hport hd

/-- Settles O23, by what is presented: nothing, a command elsewhere, a frame at the response port, or no instruction;
`withFetchWord` presents the table's command. -/
theorem stepRunsThePresentedInstruction : Obligations.StepRunsThePresentedInstruction := by
  intro s
  refine ⟨step_idle, fun c rest i hp hport hd => ?_, fun c rest i hp hport hd => ⟨?_, fun hl => ?_⟩,
    fun c rest why hp hd => step_undecodable hp hd, fun nbits w i hd => ⟨fun hport => ?_, fun hport => ?_⟩⟩
  · rw [step_command hp hport hd, State.taking, ports_of_not_response hport]
  · rw [step_response_eq_tick hp hport, State.taking, ports_of_response hport]
  · exact step_response_running hl hp hport hd
  · have hw : s.withFetchWord nbits w = s.presentNext (tableCommand s.params nbits w) := if_neg hport
    rw [hw, step_presentNext hport hd]
  · have hw : s.withFetchWord nbits w = s.operating.presentNext (tableCommand s.params nbits w) := if_pos hport
    rw [hw, step_presentNext_response (operating_lc s) hport (by rwa [operating_params])]
    simp

/-- Settles O40: each operation by the lifecycle state. -/
theorem lifecycleTableIsObeyed : Obligations.LifecycleTableIsObeyed := fun _ =>
  ⟨exec_opTick_constructed, fun h => ⟨exec_opTick_stopped h, exec_opStop_stopped h⟩, exec_opStart_refused,
    exec_opStop_halts⟩

/-! ### Construction and the bounds of the invariant -/

/-- Settles O50: construction writes each value it is stated to leave. -/
theorem constructionLeavesTheStatedValues : Obligations.ConstructionLeavesTheStatedValues :=
  ⟨fun _ _ _ => ⟨rfl, rfl, rfl, rfl, rfl, rfl, rfl⟩, rfl⟩

theorem inv_construct {p : Config.Params} {init rep : List MsgId} (hp : 1 ≤ p.listMax)
    (hinit : init.length ≤ p.listMax) (hrep : rep.length ≤ p.listMax) : (State.construct p init rep).Inv where
  listMax_pos := hp
  cfgInit_fits := hinit
  cfgRep_fits := hrep
  rep_fits := Nat.zero_le _
  cursor_le := Nat.zero_le _
  rep_effective := fun hl => by cases hl

/-- Settles O51: reset is the construction with empty lists. -/
theorem invariantHoldsAtConstruction : Obligations.InvariantHoldsAtConstruction :=
  ⟨fun _ _ _ => inv_construct, inv_construct (Nat.le_add_left 1 _) (Nat.zero_le _) (Nat.zero_le _)⟩

theorem cursor_le_listMax {s : State} (h : s.Inv) : s.cursor ≤ s.params.listMax := by
  refine h.cursor_le.trans ?_
  unfold State.activeList
  split
  · exact h.cfgInit_fits
  · exact h.rep_fits

/-- Settles O54: the cursor is at most `P_LIST_MAX`, which lies between the two powers of two. -/
theorem cursorFitsItsWidth : Obligations.CursorFitsItsWidth := by
  intro s h
  have hpos : s.params.listMax ≠ 0 := Nat.one_le_iff_ne_zero.mp h.listMax_pos
  rw [cursorWidth, Nat.add_sub_cancel]
  exact ⟨(cursor_le_listMax h).trans_lt Nat.lt_log2_self, Nat.lt_succ_of_le (Nat.log2_self_le hpos)⟩

end Sys2Proof.Machine
end

section
/-! The receive phase of a tick (43_scheduler.md R249, 42_response_dispatcher.md §1): what an absent, an invalid and a VALID
delivery do, and the sink view after a tick. -/

namespace Sys2Proof.Machine

theorem receiveEvents_of_none {s : State} (h : s.ports.rsp = none) : receiveEvents s = [.process] := by
  simp only [receiveEvents, h]

theorem receiveEvents_of_some {s : State} {d : Delivery} (h : s.ports.rsp = some d) :
    receiveEvents s = .process :: dispatch s.params d := by
  simp only [receiveEvents, h]

/-- A RUNNING tick that reads not ready appends its receive events and clears the delivery, nothing else. -/
theorem exec_opTick_idle {s : State} (hl : s.lc = .running) (hr : s.ports.ready = false) :
    exec .opTick s = .next { s with
      events := s.events ++ receiveEvents s, ports := { s.ports with rsp := none } } := by
  rw [exec_opTick_running hl, tick_idle hr, receivePhase_eq]
  rfl

/-- Settles O41: with no delivery the receive events are `PROCESS` alone, and the port is clear already. -/
theorem notReadyTickOnlyProcesses : Obligations.NotReadyTickOnlyProcesses := by
  intro s hl hr hrsp
  rw [exec_opTick_idle hl hr, receiveEvents_of_none hrsp, ← hrsp]

/-- Settles O33: the dispatch is decided by the status, and the receive events are `PROCESS` and that report. -/
theorem invalidDeliveriesAreReportedAndDropped : Obligations.InvalidDeliveriesAreReportedAndDropped := by
  refine fun s d hd => ⟨fun p => dispatch_of_not_valid p hd, fun hl hr hrsp => ?_⟩
  rw [exec_opTick_idle hl hr, receiveEvents_of_some hrsp, dispatch_of_not_valid _ hd]

/-- A ready RUNNING tick that reads an entry. -/
theorem exec_opTick_ready {s : State} {id : MsgId} (hl : s.lc = .running) (hr : s.ports.ready = true)
    (hid : s.nextEntry = some id) : exec .opTick s = .next (s.afterReady id) := by
  rw [exec_opTick_running hl, tick_of_entry hr hid]

/-- Settles O34: the row emits what the dispatch of the frame emits, and that is what the receive phase emits after
`PROCESS`. -/
theorem validDeliveriesRunTheirResponseRow : Obligations.ValidDeliveriesRunTheirResponseRow := by
  intro s frame i hd
  obtain rfl : decodeResponse s.params frame = i := Except.ok.inj hd
  have hrow := exec_decodeResponse s frame
  refine ⟨hrow, fun hl hr hrsp => ⟨_, exec_decodeResponse (s.emit [.process]) frame, ?_⟩, fun h hl hr hrsp => ?_⟩
  · rw [exec_opTick_idle hl hr, receiveEvents_of_some hrsp, emit_emit]
    rfl
  · obtain ⟨id, hid⟩ := nextEntry_of_inv h hl
    refine ⟨_, _, _, hrow, exec_opTick_ready hl hr hid, issueEvent_isIssue (build s.params s.ports id), rfl, ?_⟩
    rw [afterReady_events, receiveEvents_of_some hrsp]
    cases s.params.tickOrder <;> rfl

/-! ### The bits a dispatch reads -/

/-- A bit below 24 is a bit of the number modulo 2^24. -/
theorem bitSet_congr {f g : Frame} (h : f.toNat % 2 ^ 24 = g.toNat % 2 ^ 24) {i : Nat} (hi : i < 24) :
    bitSet f i = bitSet g i := by
  have hbit : ∀ w : Frame, bitSet w i = (w.toNat % 2 ^ 24).testBit i := fun w => by
    rw [bitSet_eq_getLsbD, BitVec.getLsbD, Nat.testBit_mod_two_pow, decide_eq_true hi, Bool.true_and]
  rw [hbit, hbit, h]

section sameLowBits
variable {f g : Frame}

/-- No rule reads a bit above 15. -/
theorem respondNamed_congr (h : ∀ i, i < 16 → bitSet f i = bitSet g i) (p : Config.Params) (n : MsgName) :
    respondNamed p n f = respondNamed p n g := by
  have hflag : ∀ k i, i < 16 → publishFlag k f i = publishFlag k g i := fun k i hi => by
    rw [publishFlag_eq, publishFlag_eq, h i hi]
  have hpayload : framePayload f = framePayload g := extractLsb'_congr fun i _ hi => h i (by omega)
  have hfixed : decodeFixedPoint f = decodeFixedPoint g := by rw [decodeFixedPoint, decodeFixedPoint, hpayload]
  have hsigned : decodeSigned16 f = decodeSigned16 g := by rw [decodeSigned16, decodeSigned16, hpayload]
  have hunsigned : decodeUint16 f = decodeUint16 g := by rw [decodeUint16, decodeUint16, hpayload]
  have hpair : ∀ ub lb, publishPair ub lb f = publishPair ub lb g := fun ub lb => by
    rw [publishPair, publishPair, decodeHighByteSigned, decodeHighByteSigned, decodeLowByteSigned, decodeLowByteSigned,
      extractLsb'_congr fun i _ hi => h i (by omega), extractLsb'_congr fun i _ hi => h i (by omega)]
  cases n with
  | status => simp [respondNamed, respondStatus, hflag]
  | sConfigSMemberIDcode =>
    cases hb : p.configFlagByte <;> simp [respondNamed, respondSConfigSMemberIDcode, hb, configFlagBase, hflag]
  | rbpFlags => simp [respondNamed, respondRBPflags, hflag]
  | tSet | tsetCH2 => exact congrArg (fun q => [Event.diag (.logEcho _ q)]) hfixed
  | tdhwSetUBTdhwSetLB | maxTSetUBMaxTSetLB => exact hpair _ _
  | tcollector | texhaust => exact congrArg (fun v : Int => [Event.pubS _ (v : Rat)]) hsigned
  | burnerStarts | chPumpStarts | dhwPumpValveStarts | dhwBurnerStarts | burnerOperationHours | chPumpOperationHours
  | dhwPumpValveOperationHours | dhwBurnerOperationHours =>
    exact congrArg (fun v : Int => [Event.pubS _ (v : Rat)]) hunsigned
  | relModLevel | chPressure | dhwFlowRate | tboiler | tdhw | toutside | tret | tstorage | tflowCH2 | tdhw2
  | maxTSet => exact congrArg (fun q => [Event.pubS _ q]) hfixed

/-- The dispatch of a VALID frame reads bits 23 to 0 alone (42_response_dispatcher.md R214). -/
theorem dispatch_valid_congr (h : ∀ i, i < 24 → bitSet f i = bitSet g i) (p : Config.Params) :
    dispatch p ⟨f, .valid⟩ = dispatch p ⟨g, .valid⟩ := by
  have hid : frameId f = frameId g := extractLsb'_congr fun i _ hi => h i (by omega)
  show respond p f = respond p g
  rw [respond, respond, hid]
  cases responseName p (frameId g) with
  | some n => exact respondNamed_congr (fun i hi => h i (by omega)) p n
  | none => exact congrArg (fun id => [Event.diag (.unexpectedResponse id)]) hid

end sameLowBits

/-- A tick sees its delivery only through the events of the receive phase. -/
theorem exec_opTick_withDelivery {s : State} {d : Option Delivery} (hl : s.lc = .running)
    (h : receiveEvents (s.withDelivery d) = receiveEvents s) : exec .opTick (s.withDelivery d) = exec .opTick s := by
  cases hr : s.ports.ready with
  | false => rw [exec_opTick_idle hl hr, exec_opTick_idle (s := s.withDelivery d) hl hr, h]; rfl
  | true =>
    have hnext : (s.withDelivery d).nextEntry = s.nextEntry := rfl
    rw [exec_opTick_running hl, exec_opTick_running (s := s.withDelivery d) hl]
    cases hid : s.nextEntry with
    | none => rw [tick_of_no_entry hr hid, tick_of_no_entry (s := s.withDelivery d) hr (hnext.trans hid)]
    | some id =>
      rw [tick_of_entry hr hid, tick_of_entry (s := s.withDelivery d) hr (hnext.trans hid), State.afterReady,
        State.afterReady, h]
      rfl

/-- Settles O35: the two deliveries are dispatched alike. -/
theorem parityAndTypeBitsAreNeverRead : Obligations.ParityAndTypeBitsAreNeverRead := by
  intro s s' f g hfg hl hrsp hs'
  have hs : s' = s.withDelivery (some ⟨g, .valid⟩) := hs'
  rw [hs]
  refine (exec_opTick_withDelivery hl ?_).symm
  rw [receiveEvents_of_some hrsp, receiveEvents_of_some (s := s.withDelivery _) rfl, withDelivery_params,
    dispatch_valid_congr fun i hi => bitSet_congr hfg hi]

/-- Settles O36: everything but the lifecycle operations returns a value or emits events of a dispatch. -/
theorem onlyLifecycleOperationsMoveTheScheduler : Obligations.OnlyLifecycleOperationsMoveTheScheduler := by
  intro i s t hstart htick hstop h
  rcases exec_next h with ⟨r, rfl⟩ | ⟨es, hes, rfl⟩ | ⟨rfl, -⟩ | ⟨rfl, -⟩ | ⟨rfl, -⟩ | ⟨rfl, -⟩ | ⟨rfl, -⟩
  · exact ⟨rfl, rfl, rfl, rfl, rfl, rfl, rfl, rfl, rfl, rfl⟩
  · have htx : es.filter Event.isTx = [] :=
      List.filter_eq_nil_iff.mpr fun e he => by simp [isTx_of_isDispatch (hes e he)]
    exact ⟨rfl, rfl, rfl, rfl, rfl, rfl, rfl, rfl, rfl, by rw [emit_events, List.filter_append, htx, List.append_nil]⟩
  · exact absurd rfl hstart
  · exact absurd rfl htick
  · exact absurd rfl htick
  · exact absurd rfl hstop
  · exact absurd rfl hstop

/-! ### The sink view after a tick and after a response row -/

section reader
variable {α : Type} {f : Event → Option α} {k : Kind}

/-- A reader of a kind finds nothing in the issue event or in `PROCESS`. -/
theorem reads_eq_none (hf : Reads f k) {e : Event} (h : e.kind? = none) : f e = none := by
  by_contra hv
  rw [(hf e).mp (Option.isSome_iff_ne_none.mpr hv)] at h
  cases h

/-- A reader of the publishes `pub` finds nothing where there is none of them. -/
theorem no_value_iff {pub : α → Event} (hpub : ∀ {e a}, f e = some a ↔ e = pub a) {es : List Event} :
    (∀ e ∈ es, f e = none) ↔ ∀ a, pub a ∉ es := by
  simp only [Option.eq_none_iff_forall_ne_some, ne_eq, hpub]
  exact ⟨fun h a ha => h _ ha a rfl, fun h e he a hea => h a (hea ▸ he)⟩

theorem issueEvent_kind? (r : BuildResult) : (issueEvent r).kind? = none := by
  cases r <;> rfl

/-- The last value after a tick is that of the history followed by the dispatched events. -/
theorem lastValue_tick (hf : Reads f k) {s t : State} {received : List Event} (ht : tick s = .next t)
    (hreceived : receiveEvents s = .process :: received) :
    lastValue f t.events = lastValue f (s.events ++ received) := by
  obtain ⟨issued, hissued, hevents⟩ := tick_appends ht
  have hnone : issued.filterMap f = [] := by
    rcases hissued with rfl | ⟨r, rfl⟩
    · rfl
    · exact List.filterMap_cons_none (reads_eq_none hf (issueEvent_kind? r))
  have hprocess : (receiveEvents s).filterMap f = received.filterMap f := by
    rw [hreceived, List.filterMap_cons_none (reads_eq_none hf rfl)]
  have htick : (tickEvents s.params.tickOrder issued (receiveEvents s)).filterMap f = received.filterMap f := by
    cases s.params.tickOrder <;> simp [tickEvents, hnone, hprocess]
  rw [hevents, lastValue, lastValue, List.filterMap_append, List.filterMap_append, htick]

end reader

/-- A response row leaves the last value of another name's kind. -/
theorem lastValue_respondNamed_of_other {α : Type} {f : Event → Option α} {k : Kind} (hf : Reads f k)
    (history : List Event) (p : Config.Params) {n : MsgName} (frame : Frame) (hk : k.owner ≠ n) :
    lastValue f (history ++ respondNamed p n frame) = lastValue f history := by
  refine lastValue_append_of_nil history (values_eq_nil hf ?_)
  rwa [kinds_respondNamed, Kind.mem_ofName]

/-- Settles O38: the sink view is the last value found; a tick adds the dispatched events, a row its name's kinds. -/
theorem sinkHoldsTheLastPublishedValue : Obligations.SinkHoldsTheLastPublishedValue := by
  simp only [Obligations.SinkHoldsTheLastPublishedValue, sinkSensor_eq, sinkBinary_eq]
  refine ⟨fun before after k q h => ?_, fun before after k b h => ?_, fun history k => ?_, fun history k => ?_,
    fun s t received hl h hreceived => ?_, fun n frame s t h => ?_⟩
  · exact lastValue_of_last (sensorValue_eq_some.mpr rfl) ((no_value_iff sensorValue_eq_some).mpr h)
  · exact lastValue_of_last (binaryValue_eq_some.mpr rfl) ((no_value_iff binaryValue_eq_some).mpr h)
  · rw [lastValue_eq_none_iff, no_value_iff sensorValue_eq_some]
  · rw [lastValue_eq_none_iff, no_value_iff binaryValue_eq_some]
  · rw [exec_opTick_running hl] at h
    have hprocess : receiveEvents s = .process :: received := by rw [hreceived]; rfl
    exact ⟨fun k => lastValue_tick (sensorValue_reads k) h hprocess,
      fun k => lastValue_tick (binaryValue_reads k) h hprocess⟩
  · rw [exec_rspOf] at h
    cases h
    have honce := kinds_respondNamed_nodup s.params n frame
    refine ⟨respondNamed s.params n frame, rfl, fun k q hq => ?_, fun k b hb => ?_, fun k hk => ?_, fun k hk => ?_⟩
    · exact lastValue_append_of_mem (sensorValue_reads k) s.events honce hq (sensorValue_eq_some.mpr rfl)
    · exact lastValue_append_of_mem (binaryValue_reads k) s.events honce hb (binaryValue_eq_some.mpr rfl)
    · exact lastValue_respondNamed_of_other (sensorValue_reads k) s.events s.params frame hk
    · exact lastValue_respondNamed_of_other (binaryValue_reads k) s.events s.params frame hk

end Sys2Proof.Machine
end

section
/-! One ready tick (43_scheduler.md R245 to R250): it issues what the builder of the entry's identifier returns, also when
the build fails. -/

namespace Sys2Proof.Machine

theorem issuedFor_deliver (s : State) (r : BuildResult) : issuedFor (s.deliver r).returned = some (issueEvent r) := by
  cases r <;> rfl

/-- Settles O42: the entry at the next position is built, and its issue event stands before or after the receive
events. -/
theorem readyTickIssuesTheEntryAtTheCursor : Obligations.ReadyTickIssuesTheEntryAtTheCursor := by
  intro s h hl hr
  obtain ⟨id, hid⟩ := nextEntry_of_inv h hl
  refine ⟨id, _, _, receiveEvents s, hid, exec_requestInstr s id, issuedFor_deliver s _, rfl, ?_⟩
  rw [exec_opTick_ready hl hr hid, State.afterReady]
  cases s.params.tickOrder <;> rfl

/-- An identifier that selects REQ.<unknown> is not built. -/
theorem build_of_unknown {p : Config.Params} {id : MsgId} (h : requestInstr p id = .reqUnknown id) (ports : Ports) :
    build p ports id = .fail id := by
  unfold requestInstr at h
  cases hn : requestName p id with
  | none => rw [build, hn, buildUnknown]
  | some n => rw [hn] at h; cases n <;> cases h

/-- In either order of the phases a tick sends what its send phase sends. -/
theorem tickEvents_txs (o : Config.TickOrder) (issued : List Event) (s : State) :
    (tickEvents o issued (receiveEvents s)).filter Event.isTx = issued.filter Event.isTx := by
  cases o <;> simp [tickEvents, receiveEvents_not_tx]

/-- A failed build sends no frame. -/
theorem afterReady_of_fail {s : State} {id : MsgId} (h : build s.params s.ports id = .fail id) :
    (s.afterReady id).events.filter Event.isTx = s.events.filter Event.isTx := by
  rw [afterReady_events, List.filter_append, tickEvents_txs, h]
  exact List.append_nil _

/-- Settles O43: the build fails by its identifier alone, so the tick reports it, and so does every later one. -/
theorem unknownEntriesAreReportedAndSkipped : Obligations.UnknownEntriesAreReportedAndSkipped := by
  intro s id h hl hr hid hunknown
  have hfail := build_of_unknown hunknown
  refine ⟨⟨_, exec_opTick_ready hl hr hid, ?_, afterReady_of_fail (hfail _), rfl⟩, fun s' hs' => ?_⟩
  · rw [afterReady_events, List.filter_append, tickEvents_issues, hfail]
    rfl
  · rw [exec_requestInstr, show build s'.params s'.ports id = .fail id by rw [hs', hfail]]
    rfl

/-- Settles O44: the issue events of a tick are those of its send phase. -/
theorem oneRequestPerReadyTick : Obligations.OneRequestPerReadyTick := by
  intro s t hl h
  rw [exec_opTick_running hl] at h
  rcases tick_next h with ⟨hr, rfl⟩ | ⟨hr, id, -, rfl⟩
  · exact ⟨_, receivePhase_events s, fun hready => by simp [hr] at hready,
      fun _ => ⟨receiveEvents_not_issue s, receivePhase_initializing s, receivePhase_cursor s⟩⟩
  · exact ⟨_, rfl, fun _ => ⟨_, tickEvents_issues _ _ _⟩, fun hidle => by simp [hr] at hidle⟩

/-! ### One request outstanding -/

/-- A history stays free of a second outstanding request when the next event is no frame, or none is in flight. -/
theorem singleOutstanding_concat {history : List Event} {e : Event} (h : singleOutstanding history)
    (he : e.isTx = true → inFlight history = false) : singleOutstanding (history ++ [e]) := by
  intro before frame after heq
  rcases List.eq_nil_or_concat after with rfl | ⟨after', x, rfl⟩
  · obtain ⟨rfl, hlast⟩ := List.append_inj' heq rfl
    obtain rfl := List.singleton_inj.mp hlast
    exact he rfl
  · rw [List.concat_eq_append, ← List.cons_append, ← List.append_assoc] at heq
    obtain ⟨hinit, -⟩ := List.append_inj' heq rfl
    exact h before frame after' hinit

theorem singleOutstanding_append {history es : List Event} (h : singleOutstanding history)
    (hes : ∀ e ∈ es, e.isTx = false) : singleOutstanding (history ++ es) := by
  induction es using List.reverseRecOn with
  | nil => simpa using h
  | append_singleton es e ih =>
    rw [← List.append_assoc]
    refine singleOutstanding_concat (ih fun e' he' => hes e' (List.mem_append_left _ he')) fun htx => ?_
    rw [hes e (by simp)] at htx
    cases htx

theorem receiveEvents_isTx (s : State) : ∀ e ∈ receiveEvents s, e.isTx = false := by
  simpa [List.filter_eq_nil_iff] using receiveEvents_not_tx s

/-- Settles O48: the frame of a ready tick is appended where the duty says that none is in flight, and the receive phase
sends none. -/
theorem dutyKeepsOneRequestOutstanding : Obligations.DutyKeepsOneRequestOutstanding := by
  intro s t h hsend hprocess hs
  have hreceive := receiveEvents_isTx s
  rcases opTick_next h with ⟨-, ht⟩ | ⟨-, rfl⟩
  · rcases tick_next ht with ⟨-, rfl⟩ | ⟨hr, id, -, rfl⟩
    · rw [receivePhase_events]
      exact singleOutstanding_append hs hreceive
    · rw [afterReady_events]
      cases ho : s.params.tickOrder with
      | sendThenProcess =>
        have hfree : inFlight s.events = false := by
          by_contra hflight
          simp [hsend ho (by simpa using hflight)] at hr
        rw [tickEvents, ← List.append_assoc]
        exact singleOutstanding_append (singleOutstanding_concat hs fun _ => hfree) hreceive
      | processThenSend =>
        have hfree : inFlight (s.events ++ receiveEvents s) = false := by
          by_contra hflight
          have := hprocess ho (by simpa using hflight)
          simp [hr] at this
        rw [tickEvents, ← List.append_assoc]
        exact singleOutstanding_concat (singleOutstanding_append hs hreceive) fun _ => hfree
  · exact hs

end Sys2Proof.Machine
end

section
/-! Runs of ticks (43_scheduler.md §5, 70_reset_and_hazards.md §3): the closed form of the schedule, the two tick orders, and
lists of unknown identifiers, each by induction on the presented inputs. -/

namespace Sys2Proof.Machine

/-- The block with the port values of its next tick. -/
def State.withPorts (s : State) (x : Ports) : State := { s with ports := x }

section withPorts
variable (s : State) (x : Ports)
@[simp] theorem withPorts_params : (s.withPorts x).params = s.params := rfl
@[simp] theorem withPorts_events : (s.withPorts x).events = s.events := rfl
@[simp] theorem withPorts_ports : (s.withPorts x).ports = x := rfl
end withPorts

theorem ticks_cons {s t : State} {x : Ports} (inputs : List Ports) (hl : s.lc = .running)
    (ht : tick (s.withPorts x) = .next t) : ticks s (x :: inputs) = ticks t inputs := by
  have h : exec .opTick { s with ports := x } = .next t := (exec_opTick_running (s := s.withPorts x) hl).trans ht
  rw [ticks, h]

/-- A run of ticks that completes begins with a tick that does. -/
theorem ticks_cons_some {s u : State} {x : Ports} {inputs : List Ports} (hl : s.lc = .running)
    (h : ticks s (x :: inputs) = some u) : ∃ t, tick (s.withPorts x) = .next t ∧ t.lc = .running ∧
      ticks t inputs = some u := by
  have hexec : exec .opTick { s with ports := x } = tick (s.withPorts x) := exec_opTick_running (s := s.withPorts x) hl
  rw [ticks, hexec] at h
  cases ht : tick (s.withPorts x) with
  | next t =>
    rw [ht] at h
    obtain ⟨-, -, -, -, hlc, -⟩ := tick_frame ht
    exact ⟨t, rfl, hlc.trans hl, h⟩
  | fault r => rw [ht] at h; cases h
  | refused r => rw [ht] at h; cases h

/-! ### The closed form of the schedule -/

/-- The block stands where k ready ticks after the state of START leave it (43_scheduler.md R251). -/
structure StandsAt (s : State) (k : Nat) (t : State) : Prop where
  lc : t.lc = .running
  params : t.params = s.params
  cfgInit : t.cfgInit = s.cfgInit
  rep : t.rep = s.rep
  initial : k ≤ s.cfgInit.length → t.initializing = true ∧ t.cursor = k
  repeating : s.cfgInit.length < k →
    t.initializing = false ∧ t.cursor = (k - 1 - s.cfgInit.length) % s.rep.length + 1

theorem standsAt_started (s : State) : StandsAt s.started 0 s.started where
  lc := rfl
  params := rfl
  cfgInit := rfl
  rep := rfl
  initial := fun _ => ⟨rfl, rfl⟩
  repeating := fun h => absurd h (Nat.not_lt_zero _)

/-- Counting on within a list that starts again at its end. -/
theorem succ_mod_of_wrap (m n : Nat) : (if m % n + 1 = n then 0 else m % n + 1) = (m + 1) % n := by
  rw [← Nat.mod_add_mod]
  split
  · next h => rw [h, Nat.mod_self]
  · next h =>
    rcases Nat.eq_zero_or_pos n with rfl | hn
    · simp
    · have := Nat.mod_lt m hn
      exact (Nat.mod_eq_of_lt (by omega)).symm

/-- The position the next ready tick reads at: within `CFG_INIT` first, then around `REP`. -/
theorem nextPosition_of_standsAt {s t : State} {k : Nat} (h : StandsAt s k t) :
    t.nextPosition = if k < s.cfgInit.length then (true, k) else (false, (k - s.cfgInit.length) % s.rep.length) := by
  rcases Nat.lt_or_ge s.cfgInit.length k with hk | hk
  · obtain ⟨hphase, hcursor⟩ := h.repeating hk
    obtain ⟨m, rfl⟩ := Nat.exists_eq_add_of_lt hk
    have hm : s.cfgInit.length + m + 1 - 1 - s.cfgInit.length = m := by omega
    rw [hm] at hcursor
    rw [if_neg (by omega), State.nextPosition, hphase, h.rep, hcursor, succ_mod_of_wrap,
      show s.cfgInit.length + m + 1 - s.cfgInit.length = m + 1 by omega]
    rfl
  · obtain ⟨hphase, hcursor⟩ := h.initial hk
    rw [State.nextPosition, hphase, h.cfgInit, hcursor, if_pos rfl]
    by_cases heq : k = s.cfgInit.length
    · simp [heq]
    · rw [if_neg heq, if_pos (by omega)]

/-- The entry the next ready tick reads is that of the closed form. -/
theorem nextEntry_of_standsAt {s t : State} {k : Nat} (h : StandsAt s k t) :
    t.nextEntry = scheduleEntry s.cfgInit s.rep (k + 1) := by
  rw [State.nextEntry, nextPosition_of_standsAt h, scheduleEntry, h.cfgInit, h.rep]
  by_cases hk : k < s.cfgInit.length
  · rw [if_pos hk, if_pos (show k + 1 ≤ _ from hk), Nat.add_sub_cancel]
    rfl
  · rw [if_neg hk, if_neg (show ¬ k + 1 ≤ _ from hk), Nat.add_sub_cancel]
    rfl

/-- With a repeating list that is not empty the closed form has an entry for every tick. -/
theorem scheduleEntry_isSome (init : List MsgId) {rep : List MsgId} (h : 1 ≤ rep.length) (k : Nat) :
    ∃ id, scheduleEntry init rep (k + 1) = some id := by
  unfold scheduleEntry
  by_cases hk : k + 1 ≤ init.length
  · rw [if_pos hk]
    exact ⟨_, List.getElem?_eq_getElem (by omega)⟩
  · rw [if_neg hk]
    exact ⟨_, List.getElem?_eq_getElem (Nat.mod_lt _ h)⟩

theorem standsAt_withPorts {s t : State} {k : Nat} (h : StandsAt s k t) (x : Ports) :
    StandsAt s k (t.withPorts x) := ⟨h.lc, h.params, h.cfgInit, h.rep, h.initial, h.repeating⟩

theorem standsAt_receivePhase {s t : State} {k : Nat} (h : StandsAt s k t) : StandsAt s k (receivePhase t) := by
  constructor <;> simp [h.lc, h.params, h.cfgInit, h.rep]
  · exact h.initial
  · exact h.repeating

theorem standsAt_afterReady {s t : State} {k : Nat} (h : StandsAt s k t) (id : MsgId) :
    StandsAt s (k + 1) (t.afterReady id) where
  lc := h.lc
  params := h.params
  cfgInit := h.cfgInit
  rep := h.rep
  initial := fun hk => by
    rw [afterReady_initializing, afterReady_cursor, nextPosition_of_standsAt h, if_pos (by omega)]
    exact ⟨rfl, rfl⟩
  repeating := fun hk => by
    rw [afterReady_initializing, afterReady_cursor, nextPosition_of_standsAt h, if_neg (by omega), Nat.add_sub_cancel]
    exact ⟨rfl, rfl⟩

/-- A tick completes, and moves on in the closed form exactly when it reads ready. -/
theorem tick_of_standsAt {s t : State} {k : Nat} (h : StandsAt s k t) (hrep : 1 ≤ s.rep.length) :
    ∃ u, tick t = .next u ∧ StandsAt s (k + if t.ports.ready then 1 else 0) u := by
  cases hr : t.ports.ready with
  | false => exact ⟨_, tick_idle hr, standsAt_receivePhase h⟩
  | true =>
    obtain ⟨id, hid⟩ := scheduleEntry_isSome s.cfgInit hrep k
    exact ⟨_, tick_of_entry hr ((nextEntry_of_standsAt h).trans hid), standsAt_afterReady h id⟩

/-- Any run of ticks completes, and its ready ticks move it on in the closed form. -/
theorem ticks_of_standsAt {s t : State} {k : Nat} (h : StandsAt s k t) (hrep : 1 ≤ s.rep.length)
    (inputs : List Ports) :
    ∃ u, ticks t inputs = some u ∧ StandsAt s (k + (inputs.filter fun x => x.ready).length) u := by
  induction inputs generalizing t k with
  | nil => exact ⟨t, rfl, h⟩
  | cons x inputs ih =>
    obtain ⟨u, hu, hstands⟩ := tick_of_standsAt (standsAt_withPorts h x) hrep
    obtain ⟨v, hv, hv'⟩ := ih hstands
    refine ⟨v, (ticks_cons inputs h.lc hu).trans hv, ?_⟩
    have hcount : k + (if x.ready then 1 else 0) + (inputs.filter fun x => x.ready).length =
        k + ((x :: inputs).filter fun x => x.ready).length := by
      cases hr : x.ready <;> simp [hr]; omega
    rwa [← hcount]

/-- Settles O45, from the state START leaves, whose repeating list is not empty. -/
theorem schedulePositionAfterKReadyTicks : Obligations.SchedulePositionAfterKReadyTicks := by
  refine fun s hl => ⟨s.started, exec_opStart_constructed hl, fun inputs k hk => ?_⟩
  obtain ⟨t, ht, hstands⟩ := ticks_of_standsAt (standsAt_started s) (effectiveRep_length_pos s) inputs
  rw [Nat.zero_add, ← hk] at hstands
  exact ⟨t, ht, hstands.lc, hstands.initial, hstands.repeating⟩

/-- Settles O46: where the run stands decides the entry of the next ready tick. -/
theorem readyTicksIssueTheScheduleInOrder : Obligations.ReadyTicksIssueTheScheduleInOrder := by
  intro s s₁ t hl hstart inputs k hk ht x hx
  obtain ⟨-, rfl⟩ := opStart_next hstart
  have hrep := effectiveRep_length_pos s
  obtain ⟨t', ht', hstands⟩ := ticks_of_standsAt (standsAt_started s) hrep inputs
  obtain rfl : t = t' := Option.some.inj (ht.symm.trans ht')
  rw [Nat.zero_add, ← hk] at hstands
  obtain ⟨id, hid⟩ := scheduleEntry_isSome s.cfgInit hrep k
  have htick := tick_of_entry (s := t.withPorts x) hx ((nextEntry_of_standsAt hstands).trans hid)
  refine ⟨_, id, (ticks_cons [] hstands.lc htick).trans rfl, hid, ?_⟩
  rw [afterReady_events, List.filter_append, tickEvents_issues, withPorts_params, withPorts_events, withPorts_ports,
    hstands.params, started_params]

/-! ### The two tick orders -/

/-- The two blocks differ at most in `P_TICK_ORDER` and in how issue events stand among the other events. -/
structure SameRun (s s' : State) : Prop where
  params : s'.params = { s.params with tickOrder := s'.params.tickOrder }
  cfgInit : s'.cfgInit = s.cfgInit
  rep : s'.rep = s.rep
  initializing : s'.initializing = s.initializing
  cursor : s'.cursor = s.cursor
  lc : s'.lc = s.lc
  issues : s'.events.filter Event.isIssue = s.events.filter Event.isIssue
  others : (s'.events.filter fun e => !e.isIssue) = s.events.filter fun e => !e.isIssue

theorem sameRun_withTickOrder (s : State) (o o' : Config.TickOrder) :
    SameRun (s.withTickOrder o) (s.withTickOrder o') := ⟨rfl, rfl, rfl, rfl, rfl, rfl, rfl, rfl⟩

theorem receiveEvents_others (s : State) : ((receiveEvents s).filter fun e => !e.isIssue) = receiveEvents s := by
  have h := List.filter_eq_nil_iff.mp (receiveEvents_not_issue s)
  exact List.filter_eq_self.mpr fun e he => by simpa using h e he

/-- In either order of the phases a tick's other events are those of its receive phase. -/
theorem tickEvents_others (o : Config.TickOrder) (r : BuildResult) (s : State) :
    ((tickEvents o [issueEvent r] (receiveEvents s)).filter fun e => !e.isIssue) = receiveEvents s := by
  cases o <;> simp [tickEvents, receiveEvents_others, issueEvent_isIssue]

theorem build_withTickOrder (p : Config.Params) (o : Config.TickOrder) (ports : Ports) (id : MsgId) :
    build { p with tickOrder := o } ports id = build p ports id := rfl

theorem dispatch_withTickOrder (p : Config.Params) (o : Config.TickOrder) (d : Delivery) :
    dispatch { p with tickOrder := o } d = dispatch p d := rfl

section sameRun
variable {s s' : State} (h : SameRun s s')
include h

theorem nextPosition_of_sameRun : s'.nextPosition = s.nextPosition := by
  simp only [State.nextPosition, h.initializing, h.cursor, h.cfgInit, h.rep]

theorem nextEntry_of_sameRun : s'.nextEntry = s.nextEntry := by
  simp only [State.nextEntry, nextPosition_of_sameRun h, h.cfgInit, h.rep]

theorem sameRun_withPorts (x : Ports) : SameRun (s.withPorts x) (s'.withPorts x) :=
  ⟨h.params, h.cfgInit, h.rep, h.initializing, h.cursor, h.lc, h.issues, h.others⟩

theorem receiveEvents_of_sameRun (hports : s'.ports = s.ports) : receiveEvents s' = receiveEvents s := by
  cases hr : s.ports.rsp with
  | none => rw [receiveEvents_of_none hr, receiveEvents_of_none (by rw [hports, hr])]
  | some d =>
    rw [receiveEvents_of_some hr, receiveEvents_of_some (by rw [hports, hr]), h.params, dispatch_withTickOrder]

theorem sameRun_receivePhase (hports : s'.ports = s.ports) : SameRun (receivePhase s) (receivePhase s') where
  params := by rw [receivePhase_params, receivePhase_params]; exact h.params
  cfgInit := by rw [receivePhase_cfgInit, receivePhase_cfgInit, h.cfgInit]
  rep := by rw [receivePhase_rep, receivePhase_rep, h.rep]
  initializing := by rw [receivePhase_initializing, receivePhase_initializing, h.initializing]
  cursor := by rw [receivePhase_cursor, receivePhase_cursor, h.cursor]
  lc := by rw [receivePhase_lc, receivePhase_lc, h.lc]
  issues := by simp only [receivePhase_events, List.filter_append, receiveEvents_of_sameRun h hports, h.issues]
  others := by simp only [receivePhase_events, List.filter_append, receiveEvents_of_sameRun h hports, h.others]

theorem sameRun_afterReady (hports : s'.ports = s.ports) (id : MsgId) :
    SameRun (s.afterReady id) (s'.afterReady id) where
  params := h.params
  cfgInit := h.cfgInit
  rep := h.rep
  initializing := by rw [afterReady_initializing, afterReady_initializing, nextPosition_of_sameRun h]
  cursor := by rw [afterReady_cursor, afterReady_cursor, nextPosition_of_sameRun h]
  lc := h.lc
  issues := by
    have hbuild : build s'.params s'.ports id = build s.params s.ports id := by
      rw [h.params, hports, build_withTickOrder]
    simp only [afterReady_events, List.filter_append, tickEvents_issues, hbuild, h.issues]
  others := by
    simp only [afterReady_events, List.filter_append, tickEvents_others, receiveEvents_of_sameRun h hports, h.others]

/-- Two ticks at the same inputs that complete keep the runs the same but for the interleaving. -/
theorem sameRun_tick (hports : s'.ports = s.ports) {t t' : State} (ht : tick s = .next t) (ht' : tick s' = .next t') :
    SameRun t t' := by
  cases hr : s.ports.ready with
  | false =>
    rw [tick_idle hr] at ht
    rw [tick_idle (by rw [hports, hr])] at ht'
    cases ht
    cases ht'
    exact sameRun_receivePhase h hports
  | true =>
    cases hid : s.nextEntry with
    | none => rw [tick_of_no_entry hr hid] at ht; cases ht
    | some id =>
      rw [tick_of_entry hr hid] at ht
      rw [tick_of_entry (by rw [hports, hr]) ((nextEntry_of_sameRun h).trans hid)] at ht'
      cases ht
      cases ht'
      exact sameRun_afterReady h hports id

end sameRun

theorem sameRun_ticks {s s' t t' : State} {inputs : List Ports} (h : SameRun s s') (hl : s.lc = .running)
    (ht : ticks s inputs = some t) (ht' : ticks s' inputs = some t') : SameRun t t' := by
  induction inputs generalizing s s' with
  | nil => cases ht; cases ht'; exact h
  | cons x inputs ih =>
    obtain ⟨u, hu, hlu, hrest⟩ := ticks_cons_some hl ht
    obtain ⟨u', hu', -, hrest'⟩ := ticks_cons_some (h.lc.trans hl) ht'
    exact ih (sameRun_tick (sameRun_withPorts h x) rfl hu hu') hlu hrest hrest'

/-- Under the invariant any run of ticks of a RUNNING block completes. -/
theorem ticks_complete {s : State} (h : s.Inv) (hl : s.lc = .running) (inputs : List Ports) :
    ∃ t, ticks s inputs = some t := by
  induction inputs generalizing s with
  | nil => exact ⟨s, rfl⟩
  | cons x inputs ih =>
    have hx : (s.withPorts x).Inv := inv_congr (s := s) rfl h
    obtain ⟨u, hu⟩ := tick_completes hx hl
    obtain ⟨-, -, -, -, hlc, -⟩ := tick_frame hu
    rw [ticks_cons inputs hl hu]
    exact ih (inv_tick hx hu) (hlc.trans hl)

theorem inv_withTickOrder {s : State} (h : s.Inv) (o : Config.TickOrder) : (s.withTickOrder o).Inv :=
  ⟨h.listMax_pos, h.cfgInit_fits, h.cfgRep_fits, h.rep_fits, h.cursor_le, h.rep_effective⟩

/-- Settles O47: the two runs are the same but for the interleaving after every tick. -/
theorem tickOrderChangesOnlyTheInterleaving : Obligations.TickOrderChangesOnlyTheInterleaving := by
  refine fun s inputs hl => ⟨fun h => ?_, fun t t' ht ht' => ?_⟩
  · exact ⟨ticks_complete (inv_withTickOrder h .sendThenProcess) hl inputs,
      ticks_complete (inv_withTickOrder h .processThenSend) hl inputs⟩
  · have hrun := sameRun_ticks (sameRun_withTickOrder s .sendThenProcess .processThenSend) hl ht ht'
    exact ⟨hrun.initializing.symm, hrun.cursor.symm, hrun.rep.symm, hrun.lc.symm, hrun.issues.symm, hrun.others.symm⟩

/-! ### Lists of unknown identifiers -/

/-- In REPEATING the next entry is one of `REP`. -/
theorem nextEntry_mem_rep {s : State} {id : MsgId} (hphase : s.initializing = false) (hid : s.nextEntry = some id) :
    id ∈ s.rep := by
  rw [State.nextEntry, nextPosition_of_repeating hphase] at hid
  exact List.mem_of_getElem? hid

/-- A tick over a repeating list of unknown identifiers sends nothing. -/
theorem tick_of_unknown {s t : State} (hphase : s.initializing = false)
    (hunknown : ∀ id ∈ s.rep, requestInstr s.params id = .reqUnknown id) (ht : tick s = .next t) :
    t.events.filter Event.isTx = s.events.filter Event.isTx := by
  rcases tick_next ht with ⟨hr, -⟩ | ⟨-, id, hid, rfl⟩
  · exact tick_idle_not_tx ht hr
  · exact afterReady_of_fail (build_of_unknown (hunknown id (nextEntry_mem_rep hphase hid)) _)

/-- Settles O49, by induction on the inputs. -/
theorem unknownSchedulesSendNothing : Obligations.UnknownSchedulesSendNothing := by
  intro s t inputs hl hphase hunknown h
  induction inputs generalizing s with
  | nil => cases h; rfl
  | cons x inputs ih =>
    obtain ⟨u, hu, hlu, hrest⟩ := ticks_cons_some hl h
    obtain ⟨hparams, -, -, hrep, -, -⟩ := tick_frame hu
    have htail := ih u hlu (tick_stays_repeating hu hphase) (by rw [hrep, hparams]; exact hunknown) hrest
    rw [htail, tick_of_unknown (s := s.withPorts x) hphase hunknown hu, withPorts_events]

end Sys2Proof.Machine
end
